-- ==== Sys2Proof/Word.lean ====
section
/-! DEFINITION. The byte, the unit in which the exchange memory is addressed (spec/12_formats.md). -/

namespace Sys2Proof

/-- One byte of exchange memory or of an SPI transaction (spec/12_formats.md, 12.2). -/
abbrev Byte := BitVec 8

/-- The largest value of an unsigned field of `k` bits, the ceiling of a saturating count of that width
(spec/00_scope.md, 0.5.4). -/
def ceilingOf (k : Nat) : Nat := 2 ^ k - 1

end Sys2Proof
end

