-- ==== Sys2Proof/Config.lean ====
section
/-! DEFINITION. What the part fixes (ceilings, sizes, fixed levels and times of the spec) and the one free value, which
the spec leaves open. -/

namespace Sys2Proof.Config

/-- FREE VALUE (notes/assumptions/4.md). The outcome, taken from the `n`-th draw, of a choice the spec leaves open: two
events at separate blocks that it allows in either order within one step (R54), or a comparison against a time that falls
between two advances of recorder time (R27, R164). It has no body: nothing can evaluate it. -/
opaque freeBit : Nat → Bool

/-- Event counts saturate at 2^32 - 1 (00_scope.md, 0.5.4). -/
def eventCeiling : Nat := ceilingOf 32

/-- Time counts saturate at 2^40 - 1 (0.5.4). -/
def timeCeiling : Nat := ceilingOf 40

/-- Slip energy saturates at 2^40 - 1 (0.5.4). -/
def energyCeiling : Nat := ceilingOf 40

/-- Damage saturates at 2^48 - 1 (0.5.4). -/
def damageCeiling : Nat := ceilingOf 48

/-- Intake tallies saturate at 2^32 - 1 (0.5.4, R68). -/
def tallyCeiling : Nat := ceilingOf 32

/-- A channel's window edge count saturates at 65535 (R42). -/
def edgeCeiling : Nat := ceilingOf 16

/-- The exchange memory has 32 KiB (R140). -/
def memorySize : Nat := 0x8000

/-- The slip ring lies at 0x0100, 64 slips of 16 bytes (09_the_slip_ring_and_exchange_memory.md, 9.1). -/
def ringBase : Nat := 0x0100

/-- The buffer area begins at 0x0500 (9.1). -/
def bufferBase : Nat := 0x0500

/-- The buffer area has 31,488 bytes (9.1, R144). -/
def bufferSize : Nat := 31488

/-- The journal has 64 pages (R168). -/
def pageCount : Nat := 64

/-- The component table has eight slots (R1). -/
def slotCount : Nat := 8

/-- A turning-point stack holds at most 16 points (R108). -/
def stackLimit : Nat := 16

/-- The route table holds at most 16 entries (R56). -/
def routeLimit : Nat := 16

/-- The bucket's damage list holds at most eight entries (R130). -/
def bucketLimit : Nat := 8

/-- The divisor of slip energy, 60000 / pi rounded (06_duty_metering.md, 6.8). -/
def energyDivisor : Nat := 19099

/-- The owner code DEVICE of a slip (12.4). -/
def ownerDevice : Nat := 0xA5

end Sys2Proof.Config
end

