-- ==== Sys2Proof/Syntax.lean ====
section
/-! DEFINITION. The commands: one constructor per row of spec/opcode_table.json, each a step of the part that is whole and
indivisible (95_what_each_step_holds.md), with the names their operands use. -/

namespace Sys2Proof

/-- The four debounced lines (R38). -/
inductive Line where
  | ign | crank | clutch | reverse
deriving DecidableEq, Repr

/-- The four pulse channels (03, 3.1). -/
inductive Channel where
  | p0 | p1 | p2 | p3
deriving DecidableEq, Repr

/-- The eight quantities, in the order of R20. -/
inductive Quantity where
  | engineSpeed | inputSpeed | outputSpeed | ptoSpeed | engineTorque | coolantTemp | clutch | gear
deriving DecidableEq, Repr

/-- The commands. Slip commands carry no operand: the slip the scanner holds is in State. A timer's expiry says that the
timer's interval has run out (00_scope.md, 0.5.6). A battery command carries the measured battery in millivolts at the
comparison it stands for (R162, notes/assumptions/5.md). -/
inductive Instr where
  /-- FEED (R60, R61): the held FEED slip is checked and begun. -/
  | feed
  /-- ROUTE (R58, R59). -/
  | route
  /-- FIT (R12 to R15). -/
  | fit
  /-- UNFIT (R16, R17). -/
  | unfit
  /-- PEEK (R19, R36, R139). -/
  | peek
  /-- HIRE-OPEN (R133, R134). -/
  | hireOpen
  /-- HIRE-CLOSE (R135, R136). -/
  | hireClose
  /-- DEPOT-IN (R155, R156). -/
  | depotIn
  /-- DEPOT-OUT (R158). -/
  | depotOut
  /-- TUNE (R159 to R161). -/
  | tune
  /-- SAVE (R151). -/
  | save
  /-- NOP (R151). -/
  | nop
  /-- A write to the NUDGE register (R146). -/
  | nudge
  /-- The self-poll timer expires (R146). -/
  | selfPollExpiry
  /-- A write of these bytes to RING (R141). -/
  | ringWrite (data : List Byte)
  /-- A write of these bytes to NOTICE (R152). -/
  | noticeWrite (data : List Byte)
  /-- A write of these bytes to NOTICE-MASK (R152). -/
  | noticeMaskWrite (data : List Byte)
  /-- A transaction that the port ignores: its operation byte, its address and its data (R141). -/
  | registerWriteIgnored (op : Byte) (addr : BitVec 16) (data : List Byte)
  /-- A write of consecutive bytes of exchange memory (R140). -/
  | exchangeMemoryWrite (addr : BitVec 16) (data : List Byte)
  /-- The raw level of a line changes to `level`, `true` active (R38). -/
  | lineRawChange (line : Line) (level : Bool)
  /-- A line's 10 ms debounce timer expires (R38). -/
  | debounceExpiry (line : Line)
  /-- A line's raw level has held for the 10 ms after power-on (R39). -/
  | startingLevel (line : Line)
  /-- A rising edge on a pulse input (R42). -/
  | pulseEdge (ch : Channel)
  /-- A channel's 100 ms window ends (R44). -/
  | windowEnd (ch : Channel)
  /-- The energised sensor supply has been in overload for 2 ms (R52). -/
  | sensorSupplyShort
  /-- The sensor supply's 2 s off timer expires (R53). -/
  | offTimerExpiry
  /-- The sensor supply's 50 ms trial timer expires (R53). -/
  | trialTimerExpiry
  /-- A quantity's freshness timer reaches 500 ms (R22). -/
  | freshTimerExpiry (q : Quantity)
  /-- A quantity's freshness timer reaches 2000 ms (R22). -/
  | heldTimerExpiry (q : Quantity)
  /-- The 100 ms quantum timer expires (R91). -/
  | quantumExpiry
  /-- The crank timer reaches the long-crank limit (R78). -/
  | longCrank
  /-- The catch timer expires (R79). -/
  | catchTimerExpiry
  /-- The stop timer expires (R80). -/
  | stopTimerExpiry
  /-- The battery, now `mv` millivolts, is compared with the crank-dip level on a fall (R163). -/
  | batteryBelowCrankDip (mv : Nat)
  /-- The battery is compared with the dip-recovery level on a rise (R163). -/
  | batteryAboveDipRecovery (mv : Nat)
  /-- The battery is compared with the warning level on a fall (R164). -/
  | batteryBelowWarning (mv : Nat)
  /-- The battery is compared with the warning level on a rise (R164). -/
  | batteryAboveWarning (mv : Nat)
  /-- The warning filter expires (R164). -/
  | warningFilterExpiry
  /-- The re-arm timer expires (R164). -/
  | rearmTimerExpiry
  /-- The battery is compared with the stop level on a fall (R165). -/
  | batteryBelowStop (mv : Nat)
  /-- The battery is compared with the restart level, on a rise or a fall back (R165). -/
  | batteryAboveRestart (mv : Nat)
  /-- The 250 ms restart dwell expires (R165). -/
  | restartDwellExpiry
  /-- The 30 s doze timer expires (R166). -/
  | dozeTimerExpiry
  /-- Recorder time advances by one quantum of 0.1 s (R167). -/
  | recorderTimeAdvance
  /-- The 30 minute depot timer expires (R157). -/
  | depotTimerExpiry
  /-- The journal's period timer expires (R169). -/
  | periodTimerExpiry
  /-- The journal's 10 s retry timer expires (R171). -/
  | retryTimerExpiry
  /-- A page write has finished; `verified` says whether its read-back matched the staging snapshot (R170). -/
  | checkpointWriteDone (verified : Bool)
  /-- RESETn goes low (R153). -/
  | pinReset
  /-- RESETn goes high (R153). -/
  | pinResetRelease
  /-- Supply is applied, with these raw line levels and this measured battery (R172, R39, R162). -/
  | powerOn (ign crank clutch reverse : Bool) (mv : Nat)
  /-- Supply is lost (R171). -/
  | powerLoss
  /-- The next record or candidate of the FEED in progress is handled (R61). -/
  | feedCandidate
  /-- The oldest sample handed to the slot is taken there (R121). -/
  | sampleAtSlot (slot : Fin 8)
deriving DecidableEq, Repr

end Sys2Proof
end

