-- ==== Sys2Proof/WellFormed.lean ====
section
/-! DEFINITION. Which operands name a command the port can deliver. A command is checked here once; the meanings give every
operand an effect or none, and rest on no check. -/

namespace Sys2Proof

/-- The transactions that the port ignores (R141, 12.2): a write to IDENT, a register transaction whose address is not
listed, or an operation that is not listed. -/
def ignoredTransaction (op : Byte) (addr : BitVec 16) : Bool :=
  if op = 0x02 then false
  else if op = 0x03 then false
  else if op = 0x0A then decide (4 < addr.toNat)
  else if op = 0x0B then decide (addr.toNat = 0 ∨ 4 < addr.toNat)
  else true

/-- A command whose operands the port can deliver: a write carries at least one byte (R140), and the ignored transaction
is one the port ignores. -/
def Instr.wellFormed : Instr → Bool
  | .ringWrite data => !data.isEmpty
  | .noticeWrite data => !data.isEmpty
  | .noticeMaskWrite data => !data.isEmpty
  | .exchangeMemoryWrite _ data => !data.isEmpty
  | .registerWriteIgnored op addr _ => ignoredTransaction op addr
  | _ => true

end Sys2Proof
end

