-- ==== Sys2Proof/Decode.lean ====
section
/-! DEFINITION. From bits to a command. No row of spec/opcode_table.json gives bits, so no word spells a command; the host
reaches the port's own commands by SPI transactions (12_formats.md, 12.2), which are decoded here. -/

namespace Sys2Proof

/-- The command a word spells by the table's bits. The table gives bits to no row, so every word spells none. -/
def decodeTableWord (nbits w : Nat) : Option Instr :=
  match nbits, w with
  | _, _ => none

/-- A register write (12.2): the register's address selects the command, and every unlisted address, and IDENT, is
ignored (R141). -/
def decodeRegisterWrite (addr : BitVec 16) (data : List Byte) : Instr :=
  if addr = 1 then .ringWrite data
  else if addr = 2 then .nudge
  else if addr = 3 then .noticeWrite data
  else if addr = 4 then .noticeMaskWrite data
  else .registerWriteIgnored 0x0B addr data

/-- The command that an SPI transaction of these bytes is (12.2): an operation byte, a 16-bit address with its low byte
first, then data. A read of exchange memory or of a listed register changes nothing and is no command; an unlisted
operation or register address is the ignored transaction (R141). A transaction cut short before its address ends is none. -/
def decodeTransaction : List Byte → Option Instr
  | op :: lo :: hi :: data =>
    let addr : BitVec 16 := hi ++ lo
    if op = 0x03 then some (.exchangeMemoryWrite addr data)
    else if op = 0x0B then some (decodeRegisterWrite addr data)
    else if op = 0x02 then none
    else if op = 0x0A then if 4 < addr.toNat then some (.registerWriteIgnored op addr data) else none
    else some (.registerWriteIgnored op addr data)
  | _ => none

/-- The bytes of a transaction: operation, address with its low byte first, data (12.2). -/
def transactionBytes (op : Byte) (addr : BitVec 16) (data : List Byte) : List Byte :=
  op :: addr.setWidth 8 :: (addr >>> 8).setWidth 8 :: data

/-- The SPI transaction that delivers a command of the exchange port, from the layouts of 12.2; `none` for a command that
does not come over SPI. -/
def encodeTransaction : Instr → Option (List Byte)
  | .nudge => some (transactionBytes 0x0B 2 [0])
  | .ringWrite data => some (transactionBytes 0x0B 1 data)
  | .noticeWrite data => some (transactionBytes 0x0B 3 data)
  | .noticeMaskWrite data => some (transactionBytes 0x0B 4 data)
  | .exchangeMemoryWrite addr data => some (transactionBytes 0x03 addr data)
  | .registerWriteIgnored op addr data => some (transactionBytes op addr data)
  | _ => none

end Sys2Proof
end

