-- ==== Sys2Proof/Machine/State.lean ====
section
/-! DEFINITION. Everything the spec says the part holds, block by block (00_scope.md, 0.3), as plain data, and the state
right after power-on of a part whose 64 pages are blank. -/

namespace Sys2Proof.Machine

/-! ### Names of states -/

/-- The three power states (R162). -/
inductive PowerState where
  | run | doze | hold
deriving DecidableEq, Repr

/-- The start monitor's states (R71). -/
inductive StartState where
  | off | armed | cranking | catching | running
deriving DecidableEq, Repr

/-- Crank sources, of the tuning and of evidence (R71, R72). -/
inductive CrankSource where
  | line | dip
deriving DecidableEq, Repr

/-- The state of a quantity record (R20). -/
inductive Age where
  | unknown | fresh | held
deriving DecidableEq, Repr

/-- The source of a quantity record (R20). -/
inductive Source where
  | absent | pulse | frame | line | derived
deriving DecidableEq, Repr

/-- The health of a pulse channel (R47). -/
inductive Health where
  | good | faulted
deriving DecidableEq, Repr

/-- The sensor supply's states (R51). -/
inductive SensorState where
  | off | on | shorted | trial | lockedOff
deriving DecidableEq, Repr

/-- The scanner's states (R145). -/
inductive ScannerState where
  | idle | scanning | waitSave
deriving DecidableEq, Repr

/-- The depot states (R154). -/
inductive DepotState where
  | normal | depot
deriving DecidableEq, Repr

/-- The last restart cause (R142). -/
inductive RestartCause where
  | powerOn | pin
deriving DecidableEq, Repr

/-- The restore outcome (R172). -/
inductive RestoreOutcome where
  | restored | tornSkipped | blank
deriving DecidableEq, Repr

/-- Component classes (R2). -/
inductive ComponentClass where
  | engine | starter | clutch | gearbox | axle | pto
deriving DecidableEq, Repr

/-- Classes of a counted start (R82). -/
inductive StartClass where
  | cold | warm | hot | unobserved
deriving DecidableEq, Repr

/-- The direction of a candidate (R5). -/
inductive Direction where
  | rising | falling
deriving DecidableEq, Repr

/-- The system voltage of the SUPPLY section (R160). -/
inductive SystemVoltage where
  | v12 | v24
deriving DecidableEq, Repr

/-- The nine tune sections (R160). -/
inductive TuneSection where
  | supply | start | engine | clutch | gearbox | axle | pulse | journal | code
deriving DecidableEq, Repr

/-- The twelve kinds of slip (R143). -/
inductive SlipKind where
  | feed | route | fit | unfit | peek | hireOpen | hireClose | depotIn | depotOut | tune | save | nop
deriving DecidableEq, Repr

/-- A timer, with the milliseconds its docstring names (remaining, or elapsed), kept to the quantum (notes/assumptions/3.md). -/
inductive Timer where
  | stopped
  | running (ms : Nat)
  | frozen (ms : Nat)
deriving DecidableEq, Repr

/-! ### The exchange port and the scanner -/

/-- Exchange memory: (address, byte) pairs, addresses strictly rising, no zero byte listed; an unlisted byte is 0, since
power-on and the pin reset zero the memory (R142, R153). -/
abbrev Memory := List Host.Cell

/-- The exchange port (R140, R141). ATTN is computed from the notices and the mask (R152). -/
structure Port where
  mem : Memory
  /-- RING: the ring length in force, 4..64. -/
  ring : Nat
  /-- NOTICE: twelve sticky bits, in the order of 12.2. -/
  notice : BitVec 12
  /-- NOTICE-MASK. -/
  mask : BitVec 12
  /-- The last restart cause the control block shows. -/
  cause : RestartCause
deriving DecidableEq, Repr

/-- The fields of a slip as the scanner reads them when it takes the slip (R143, 12.4). -/
structure Slip where
  kind : SlipKind
  flags : Byte
  inOffset : Nat
  inLength : Nat
  outOffset : Nat
  outLength : Nat
deriving DecidableEq, Repr

/-- A slip the part holds: its fields, and the detail and out-length its kind gave at acceptance while it waits for a
checkpoint (R150). -/
structure Held where
  slip : Slip
  detail : Nat
  used : Nat
deriving DecidableEq, Repr

/-- The slip scanner (R145). -/
structure Scanner where
  state : ScannerState
  /-- 0..63, the index of the next slip to be read. -/
  cursor : Nat
  nudgePending : Bool
  /-- Remaining time of the 1 s self-poll timer. -/
  selfPoll : Timer
  held : Option Held
deriving DecidableEq, Repr

/-! ### Frame intake -/

/-- Targets of a route (R56). -/
inductive RouteTarget where
  | engineSpeed | outputSpeed | engineTorque | coolantTemp | clutch | gear
deriving DecidableEq, Repr

/-- A route entry (R56). -/
structure RouteEntry where
  tag : BitVec 29
  target : RouteTarget
  startBit : Nat
  width : Nat
  signed : Bool
  multiplier : Nat
  divisor : Nat
  offset : Int
deriving DecidableEq, Repr

/-- A route entry with its last accepted host time, `none` until one is accepted (R57). -/
structure Route where
  entry : RouteEntry
  mark : Option (BitVec 32)
deriving DecidableEq, Repr

/-- The seven intake tallies (R68). -/
structure Tallies where
  taken : Nat
  unrouted : Nat
  shortFrame : Nat
  na : Nat
  clamped : Nat
  late : Nat
  shadowed : Nat
deriving DecidableEq, Repr

/-- A frame record as read from a FEED in-buffer (12.5): tag, host time, length 1..8 and its eight data bytes. -/
structure Frame where
  tag : BitVec 29
  time : BitVec 32
  length : Nat
  data : List Byte
deriving DecidableEq, Repr

/-- The record being handled, with the indices of the matching entries not yet handled (R61). -/
structure FrameInHand where
  frame : Frame
  left : List Nat
deriving DecidableEq, Repr

/-- The FEED in progress (R61): where its records lie, how many there are, the next to be read, the record in hand, and
the count of samples applied. -/
structure FeedWork where
  base : Nat
  total : Nat
  next : Nat
  inHand : Option FrameInHand
  applied : Nat
deriving DecidableEq, Repr

/-- Frame intake (chapter 4). -/
structure Intake where
  routes : List Route
  tallies : Tallies
  feed : Option FeedWork
deriving DecidableEq, Repr

/-! ### Lines, pulse channels, sensor supply -/

/-- One line (R38): its raw level as last seen, its debounced level, the pending level while the debounce timer runs, and
whether its starting level is still to be given (R39). `true` is active. -/
structure LineState where
  raw : Bool
  level : Bool
  pendingLevel : Option Bool
  starting : Bool
deriving DecidableEq, Repr

/-- The four lines. -/
structure Lines where
  ign : LineState
  crank : LineState
  clutch : LineState
  reverse : LineState
deriving DecidableEq, Repr

/-- One pulse channel: the window's edge count and supply-left-ON mark, the fault counter and the health (03, 3.1). -/
structure ChannelState where
  edges : Nat
  mark : Bool
  counter : Nat
  health : Health
deriving DecidableEq, Repr

/-- The pulse channels, and whether windows run (R42). -/
structure Pulse where
  p0 : ChannelState
  p1 : ChannelState
  p2 : ChannelState
  p3 : ChannelState
  windows : Bool
deriving DecidableEq, Repr

/-- The sensor supply (R51): both timers hold remaining time. -/
structure Sensor where
  state : SensorState
  retry : Nat
  offTimer : Timer
  trialTimer : Timer
deriving DecidableEq, Repr

/-! ### The quantity board -/

/-- A quantity record (R20), with its freshness timer (elapsed time; stopped while UNKNOWN). -/
structure QRecord where
  value : Int
  age : Age
  source : Source
  sampledAt : Option Nat
  timer : Timer
deriving DecidableEq, Repr

/-- A frame shadow (R27): value and recorder time of arrival, and the advances of recorder time seen since. -/
structure Shadow where
  value : Int
  arrivedAt : Nat
  quanta : Nat
deriving DecidableEq, Repr

/-- The eight records (R20) and the three frame shadows (R27). -/
structure Board where
  engineSpeed : QRecord
  inputSpeed : QRecord
  outputSpeed : QRecord
  ptoSpeed : QRecord
  engineTorque : QRecord
  coolantTemp : QRecord
  clutch : QRecord
  gear : QRecord
  shadowEngine : Option Shadow
  shadowOutput : Option Shadow
  shadowGear : Option Shadow
deriving DecidableEq, Repr

/-! ### Start monitor and duty meter -/

/-- The start monitor (R71). The crank timer holds elapsed time, the catch and stop timers remaining time. -/
structure Monitor where
  state : StartState
  crankTimer : Timer
  longMark : Bool
  caught : Bool
  catchTimer : Timer
  stopTimer : Timer
  evidence : Option CrankSource
  lastStop : Option Nat
  firstReading : Bool
  heldCrank : Bool
deriving DecidableEq, Repr

/-- An open engagement window (R89). -/
structure Engagement where
  sum : Nat
  age : Nat
  quiet : Nat
deriving DecidableEq, Repr

/-- The duty meter (R89). The quantum timer holds the elapsed part of the quantum, and the overspeed timer its count of
quanta; the last clutch reading is `some true` for DEPRESSED. -/
structure Duty where
  quantumTimer : Timer
  lastGear : Option Int
  ptoAbove : Bool
  overspeedCount : Option Nat
  overspeedArmed : Bool
  lastClutch : Option Bool
  window : Option Engagement
  spare : Nat
deriving DecidableEq, Repr

/-! ### The component table -/

/-- A candidate turning point (R5). -/
structure Candidate where
  value : Int
  direction : Direction
deriving DecidableEq, Repr

/-- Damage and residue of a GEARBOX or AXLE (R5, R108). The stack is oldest first. -/
structure Residue where
  damage : Nat
  drops : Nat
  stack : List Int
  candidate : Option Candidate
deriving DecidableEq, Repr

/-- The four start counts (R3). -/
structure StartCounts where
  cold : Nat
  warm : Nat
  hot : Nat
  unobserved : Nat
deriving DecidableEq, Repr

/-- An ENGINE body (R3). `cells` holds S0T0..S3T3 and then UNKNOWN, 17 in all. -/
structure EngineBody where
  starts : StartCounts
  run : Nat
  idle : Nat
  cells : List Nat
  overspeeds : Nat
deriving DecidableEq, Repr

/-- A STARTER body (R4). -/
structure StarterBody where
  attempts : Nat
  failed : Nat
  long : Nat
  crankTime : Nat
deriving DecidableEq, Repr

/-- A CLUTCH body (R4). -/
structure ClutchBody where
  engagements : Nat
  hotSlips : Nat
  energy : Nat
  remainder : Nat
deriving DecidableEq, Repr

/-- A PTO body (R4). -/
structure PtoBody where
  time : Nat
  engagements : Nat
deriving DecidableEq, Repr

/-- A GEARBOX body (R5). `cells` holds F1..F12, REV1, REV2, N, UNKNOWN. -/
structure GearboxBody where
  shifts : Nat
  cells : List Nat
  residue : Residue
deriving DecidableEq, Repr

/-- An AXLE body (R5). -/
structure AxleBody where
  clampedSamples : Nat
  residue : Residue
deriving DecidableEq, Repr

/-- A class body; its constructor is the class named in the header (R2). -/
inductive Body where
  | engine (b : EngineBody)
  | starter (b : StarterBody)
  | clutch (b : ClutchBody)
  | gearbox (b : GearboxBody)
  | axle (b : AxleBody)
  | pto (b : PtoBody)
deriving DecidableEq, Repr

/-- A component record (R2): its header fields, but for the class, which the body gives, and the body. -/
structure Component where
  position : Nat
  serial : List Byte
  fittedAt : Nat
  fitCount : Nat
  body : Body
deriving DecidableEq, Repr

/-- A sample handed to the cycle counter and not yet taken at its slot (R110, R121): its channel value, and whether the
clamp of R113 changed it. -/
structure SlotSample where
  slot : Nat
  value : Int
  clamped : Bool
deriving DecidableEq, Repr

/-! ### The hire register -/

/-- The counts that the hire record and the depot bucket share (R129). -/
structure Counts where
  starts : StartCounts
  failedCranks : Nat
  longCranks : Nat
  run : Nat
  idle : Nat
  pto : Nat
  crank : Nat
  overspeeds : Nat
  engagements : Nat
  energy : Nat
  hotSlips : Nat
  shifts : Nat
deriving DecidableEq, Repr

/-- An entry of the hire's component list or of the bucket's damage list (R130); `released` stays clear in a hire. -/
structure DamageEntry where
  slot : Nat
  cls : ComponentClass
  position : Nat
  serial : List Byte
  delta : Nat
  released : Bool
deriving DecidableEq, Repr

/-- The open hire (R129). -/
structure Hire where
  number : Nat
  openedAt : Nat
  counts : Counts
  entries : List DamageEntry
deriving DecidableEq, Repr

/-- The depot bucket (R129). -/
structure Bucket where
  openedAt : Nat
  counts : Counts
  entries : List DamageEntry
deriving DecidableEq, Repr

/-- The hire register (R129). -/
structure HireRegister where
  hire : Option Hire
  bucket : Bucket
  lastClosed : Nat
deriving DecidableEq, Repr

/-! ### Depot control -/

/-- The SUPPLY section (R160). -/
structure SupplyTune where
  voltage : SystemVoltage
  crankSource : CrankSource
deriving DecidableEq, Repr

/-- The START section (R72, R160): thresholds in rpm, the long-crank limit and hot window in s, the catch time in ms. -/
structure StartTune where
  run : Nat
  stop : Nat
  longCrank : Nat
  catchTime : Nat
  hotWindow : Nat
  coldLimit : Int
  clutchWired : Bool
  reverseWired : Bool
deriving DecidableEq, Repr

/-- The ENGINE section (R92). -/
structure EngineTune where
  s1 : Nat
  s2 : Nat
  s3 : Nat
  t1 : Int
  t2 : Int
  t3 : Int
  idle : Nat
  overspeed : Nat
  reference : Nat
deriving DecidableEq, Repr

/-- The CLUTCH section (R99). -/
structure ClutchTune where
  floor : Nat
  hotSlip : Nat
deriving DecidableEq, Repr

/-- Gate, bin width and weights of a class (R109). -/
structure CycleTune where
  gate : Nat
  width : Nat
  weights : List Nat
deriving DecidableEq, Repr

/-- The GEARBOX section (R33, R109): twelve forward and two reverse ratios in q6. -/
structure GearTune where
  forward : Nat
  reverse : Nat
  tolerance : Nat
  forwardRatios : List Nat
  reverseRatios : List Nat
  cycle : CycleTune
deriving DecidableEq, Repr

/-- The PULSE section (03, 3.1). -/
structure PulseTune where
  teeth0 : Nat
  teeth1 : Nat
  teeth2 : Nat
  teeth3 : Nat
  limit : Nat
deriving DecidableEq, Repr

/-- The tune set, with the checkpoint period of JOURNAL in seconds and, for CODE, the depot code (R154, R160). -/
structure TuneSet where
  supply : SupplyTune
  start : StartTune
  engine : EngineTune
  clutch : ClutchTune
  gearbox : GearTune
  axle : CycleTune
  pulse : PulseTune
  period : Nat
  code : Nat
deriving DecidableEq, Repr

/-- Depot control (R154) but for the tune set. `tuned` lists the sections whose tuned-this-visit mark is set. -/
structure Depot where
  state : DepotState
  wrongCodes : Nat
  lockout : Bool
  tuned : List TuneSection
  /-- Remaining time of the 30 minute depot timer. -/
  timer : Timer
deriving DecidableEq, Repr

/-! ### Supply monitor and journal -/

/-- The supply monitor (R162). The filter holds elapsed time, the other timers remaining time. `battery` is the measured
battery in millivolts, and `started` says that the part has entered RUN since power-on (R166). -/
structure Supply where
  power : PowerState
  prior : PowerState
  dipped : Bool
  armed : Bool
  filter : Timer
  rearm : Timer
  dwell : Timer
  doze : Timer
  recorderTime : Nat
  battery : Nat
  started : Bool
deriving DecidableEq, Repr

/-- What a page holds besides its sequence and its check word (R168). -/
structure Snapshot where
  recorderTime : Nat
  slots : List (Option Component)
  hire : Option Hire
  bucket : Bucket
  routes : List RouteEntry
  tune : TuneSet
deriving DecidableEq, Repr

/-- A journal page (R168, notes/assumptions/11.md): blank; torn, with its sequence field and a check word that does not match;
or whole. -/
inductive Page where
  | blank
  | torn (sequence : Nat)
  | whole (sequence : Nat) (content : Snapshot)
deriving DecidableEq, Repr

/-- A checkpoint in WRITING (R170, R171): its page, its sequence, whether it is the second try, and the staging snapshot. -/
structure Writing where
  page : Nat
  sequence : Nat
  secondTry : Bool
  staging : Snapshot
deriving DecidableEq, Repr

/-- The journal (R168). `writing` is `none` in IDLE; `waiting` is the waiting slip's attached flag; the period and retry
timers hold remaining time. -/
structure Journal where
  pages : List Page
  newestPage : Option Nat
  newestSequence : Nat
  lastTime : Nat
  writing : Option Writing
  another : Bool
  period : Timer
  retry : Timer
  waiting : Option Bool
  outcome : RestoreOutcome
deriving DecidableEq, Repr

/-- The part, with the queue of commands that wait. -/
structure State where
  /-- The model's own: the commands that are waiting, first in, first out. -/
  pending : List Instr
  /-- Whether supply is applied. -/
  powered : Bool
  /-- Whether RESETn is low (R153). -/
  resetLow : Bool
  port : Port
  scanner : Scanner
  intake : Intake
  lines : Lines
  pulse : Pulse
  sensor : Sensor
  board : Board
  monitor : Monitor
  duty : Duty
  slots : List (Option Component)
  samples : List SlotSample
  hires : HireRegister
  depot : Depot
  tune : TuneSet
  supply : Supply
  journal : Journal
  /-- The model's own: the next draw of the free value (notes/assumptions/4.md). -/
  draws : Nat
deriving DecidableEq, Repr

/-- The part never stops with a fault: a refused command is a status in a slip, and every command completes. No constructor,
so that a fault is impossible; safe. -/
inductive Fault where
deriving DecidableEq, Repr

/-- Reasons for having no meaning. -/
inductive Refusal where
  /-- Raised by `exec` alone, for a command that has no meaning yet; safe, since the model stops. -/
  | notModelled (mnemonic : String)
deriving DecidableEq, Repr

/-! ### Power-on values -/

/-- Counts at zero (R15, R134). -/
def StartCounts.zero : StartCounts := ⟨0, 0, 0, 0⟩

/-- A hire's or bucket's counts at zero (R134). -/
def Counts.zero : Counts := ⟨.zero, 0, 0, 0, 0, 0, 0, 0, 0, 0, 0, 0⟩

/-- An UNKNOWN record (R22, R23). -/
def QRecord.unknown : QRecord := ⟨0, .unknown, .absent, none, .stopped⟩

/-- The default weights (R109). -/
def defaultWeights : List Nat := [0, 0, 1, 2, 4, 8, 16, 32, 64, 128, 256, 512, 1024, 2048, 4096, 8192]

/-- The tune set's defaults (R160 and the tables it names), and the depot code 0 (R154). -/
def TuneSet.default : TuneSet where
  supply := ⟨.v12, .line⟩
  start := ⟨500, 200, 10, 2000, 120, 20, false, false⟩
  engine := ⟨1000, 1400, 1800, 40, 100, 160, 800, 2500, 2000⟩
  clutch := ⟨30, 60⟩
  gearbox := ⟨12, 2, 4, [956, 745, 577, 451, 360, 280, 218, 170, 131, 102, 82, 64], [883, 689], ⟨8, 32, defaultWeights⟩⟩
  axle := ⟨16, 128, defaultWeights⟩
  pulse := ⟨120, 60, 60, 0, 8⟩
  period := 600
  code := 0

/-- A channel at power-on (R50). A supply-left-ON mark belongs to a window; with none running its field stands clear
(notes/assumptions/23.md). -/
def ChannelState.powerOn : ChannelState := ⟨0, false, 0, .good⟩

/-- A line at power-on, with its raw level (R39): no debounced level has been given yet, and the field stands inactive. -/
def LineState.powerOn (raw : Bool) : LineState := ⟨raw, false, none, true⟩

/-- The board at power-on (R23). -/
def Board.powerOn : Board :=
  ⟨.unknown, .unknown, .unknown, .unknown, .unknown, .unknown, .unknown, .unknown, none, none, none⟩

/-- The start monitor at power-on (R86). -/
def Monitor.powerOn : Monitor := ⟨.off, .stopped, false, false, .stopped, .stopped, none, none, true, false⟩

/-- The duty meter at power-on (R106). -/
def Duty.powerOn : Duty := ⟨.stopped, none, false, none, true, none, none, 0⟩

/-- The empty bucket, dated at recorder time 0 (R132, R172). -/
def Bucket.factory : Bucket := ⟨0, .zero, []⟩

/-- The journal of a part whose pages are all blank, as the restore leaves it (R172). -/
def Journal.factory : Journal :=
  ⟨List.replicate Config.pageCount .blank, none, 0, 0, none, false, .stopped, .stopped, none, .blank⟩

/-- The control block right after a BLANK power-on: the identity, restart cause POWER-ON and restore outcome BLANK; every
other byte is 0 (R142, 12.3). -/
def memoryAtReset : Memory := [(0x00, 0x16), (0x01, 0x03), (0x02, 0x01), (0x0B, 1), (0x0C, 2)]

/-- The part right after power-on with 64 blank pages, its four lines inactive and its battery at 12.6 V
(notes/assumptions/2.md): the restore is BLANK with TORN set, and the starting line levels are still to be given. -/
def State.reset : State where
  pending := []
  powered := true
  resetLow := false
  port := ⟨memoryAtReset, 16, 0x004, 0, .powerOn⟩
  scanner := ⟨.idle, 0, false, .stopped, none⟩
  intake := ⟨[], ⟨0, 0, 0, 0, 0, 0, 0⟩, none⟩
  lines := ⟨.powerOn false, .powerOn false, .powerOn false, .powerOn false⟩
  pulse := ⟨.powerOn, .powerOn, .powerOn, .powerOn, false⟩
  sensor := ⟨.off, 0, .stopped, .stopped⟩
  board := .powerOn
  monitor := .powerOn
  duty := .powerOn
  slots := List.replicate Config.slotCount none
  samples := []
  hires := ⟨none, .factory, 0⟩
  depot := ⟨.normal, 0, false, [], .stopped⟩
  tune := .default
  supply := ⟨.run, .run, false, true, .stopped, .stopped, .stopped, .stopped, 0, 12600, false⟩
  journal := .factory
  draws := 0

end Sys2Proof.Machine
end

