-- ==== Sys2Proof/Machine/Ops.lean ====
section
/-! DEFINITION. Operations shared by every block: updates of one field of State, saturating sums and rounding, timers,
bytes and exchange memory, access to the boards of records, channels and lines. -/

namespace Sys2Proof.Machine

/-! ### One-field updates of State -/

/-- The state with another `powered`. -/
def State.withPowered (s : State) (v : Bool) : State := { s with powered := v }

/-- The state with another `resetLow`. -/
def State.withResetLow (s : State) (v : Bool) : State := { s with resetLow := v }

/-- The state with another `port`. -/
def State.withPort (s : State) (v : Port) : State := { s with port := v }

/-- The state with another `scanner`. -/
def State.withScanner (s : State) (v : Scanner) : State := { s with scanner := v }

/-- The state with another `intake`. -/
def State.withIntake (s : State) (v : Intake) : State := { s with intake := v }

/-- The state with another `lines`. -/
def State.withLines (s : State) (v : Lines) : State := { s with lines := v }

/-- The state with another `pulse`. -/
def State.withPulse (s : State) (v : Pulse) : State := { s with pulse := v }

/-- The state with another `sensor`. -/
def State.withSensor (s : State) (v : Sensor) : State := { s with sensor := v }

/-- The state with another `board`. -/
def State.withBoard (s : State) (v : Board) : State := { s with board := v }

/-- The state with another `monitor`. -/
def State.withMonitor (s : State) (v : Monitor) : State := { s with monitor := v }

/-- The state with another `duty`. -/
def State.withDuty (s : State) (v : Duty) : State := { s with duty := v }

/-- The state with another `slots`. -/
def State.withSlots (s : State) (v : List (Option Component)) : State := { s with slots := v }

/-- The state with another `samples`. -/
def State.withSamples (s : State) (v : List SlotSample) : State := { s with samples := v }

/-- The state with another `hires`. -/
def State.withHires (s : State) (v : HireRegister) : State := { s with hires := v }

/-- The state with another `depot`. -/
def State.withDepot (s : State) (v : Depot) : State := { s with depot := v }

/-- The state with another `tune`. -/
def State.withTune (s : State) (v : TuneSet) : State := { s with tune := v }

/-- The state with another `supply`. -/
def State.withSupply (s : State) (v : Supply) : State := { s with supply := v }

/-- The state with another `journal`. -/
def State.withJournal (s : State) (v : Journal) : State := { s with journal := v }

/-- The state with another `draws`. -/
def State.withDraws (s : State) (v : Nat) : State := { s with draws := v }

/-! ### Numbers -/

/-- A saturating sum: past the ceiling it is the ceiling (0.5.4, R7). -/
def satAdd (ceiling a b : Nat) : Nat := min ceiling (a + b)

/-- One more event (0.5.4). -/
def bumpEvent (n : Nat) : Nat := satAdd Config.eventCeiling n 1

/-- One more quantum of a time count (0.5.4). -/
def bumpTime (n : Nat) : Nat := satAdd Config.timeCeiling n 1

/-- A value clamped to a range is the nearer end when it lies outside (0.5.5). -/
def clampInt (lo hi v : Int) : Int := max lo (min hi v)

/-- `clampInt` for a natural number. -/
def clampNat (lo hi v : Nat) : Nat := max lo (min hi v)

/-- `num / den` rounded half away from zero (0.5.5), for a positive `den`. -/
def roundHalfAway (num : Int) (den : Nat) : Int :=
  let q : Nat := (2 * num.natAbs + den) / (2 * den)
  if num < 0 then -(q : Int) else (q : Int)

/-! ### Timers -/

/-- Whether a timer runs. -/
def Timer.isRunning : Timer → Bool
  | .running _ => true
  | _ => false

/-- A running timer frozen with its time (R84, R165). -/
def Timer.freeze : Timer → Timer
  | .running ms => .frozen ms
  | t => t

/-- A frozen timer running on from its time (R85, R165). -/
def Timer.resume : Timer → Timer
  | .frozen ms => .running ms
  | t => t

/-- One quantum of 0.1 s passes for a timer that holds elapsed time. -/
def Timer.countUp : Timer → Timer
  | .running ms => .running (ms + 100)
  | t => t

/-- One quantum of 0.1 s passes for a timer that holds remaining time. -/
def Timer.countDown : Timer → Timer
  | .running ms => .running (ms - 100)
  | t => t

/-! ### Bytes -/

/-- The `k` low bytes of a number, low byte first (0.5.2). -/
def leBytes : Nat → Nat → List Byte
  | 0, _ => []
  | k + 1, n => BitVec.ofNat 8 n :: leBytes k (n / 256)

/-- A signed 16-bit field (0.5.2). -/
def leInt16 (v : Int) : List Byte := leBytes 2 (v % 65536).toNat

/-- A list of bytes padded with zero bytes, or cut, to `k` bytes. -/
def padTo (k : Nat) (bytes : List Byte) : List Byte := (bytes ++ List.replicate k 0).take k

/-- The signed number of a 16-bit field. -/
def signed16 (n : Nat) : Int := if n < 32768 then (n : Int) else (n : Int) - 65536

/-! ### Exchange memory -/

/-- The byte at an address, 0 where none is listed. -/
def memRead : Memory → Nat → Byte
  | [], _ => 0
  | (k, v) :: rest, a => if a = k then v else if a < k then 0 else memRead rest a

/-- The memory with one byte replaced; a zero byte is not listed. -/
def memWrite : Memory → Nat → Byte → Memory
  | [], a, b => if b = 0 then [] else [(a, b)]
  | (k, v) :: rest, a, b =>
    if a < k then (if b = 0 then (k, v) :: rest else (a, b) :: (k, v) :: rest)
    else if a = k then (if b = 0 then rest else (a, b) :: rest)
    else (k, v) :: memWrite rest a b

/-- The canonical form: addresses strictly rising and inside the memory, no zero byte listed. -/
abbrev Memory.wf (m : Memory) : Prop :=
  m.Pairwise (fun c d => c.1 < d.1) ∧ ∀ c ∈ m, c.1 < Config.memorySize ∧ c.2 ≠ 0

/-- One byte written at an address taken modulo 0x8000 (R140). -/
def memPut (m : Memory) (a : Nat) (b : Byte) : Memory := memWrite m (a % Config.memorySize) b

/-- Consecutive bytes written from an address on, running on from 0x7FFF to 0x0000 (R140). -/
def memPutAll (m : Memory) (a : Nat) : List Byte → Memory
  | [] => m
  | b :: rest => memPutAll (memPut m a b) (a + 1) rest

/-- Zero written to every byte from `lo` up to, not including, `hi`. -/
def memZero (m : Memory) (lo hi : Nat) : Memory := m.filter (fun c => c.1 < lo || hi ≤ c.1)

/-- The byte at an address taken modulo 0x8000 (R140). -/
def memGet (m : Memory) (a : Nat) : Byte := memRead m (a % Config.memorySize)

/-- The byte of exchange memory at an address. -/
def State.byteAt (s : State) (a : Nat) : Byte := memGet s.port.mem a

/-- The little-endian number in the `k` bytes at an address (0.5.2). -/
def memLe (m : Memory) : Nat → Nat → Nat
  | 0, _ => 0
  | k + 1, a => (memGet m a).toNat + 256 * memLe m k (a + 1)

/-- The `k` bytes at an address. -/
def memBytes (m : Memory) (k a : Nat) : List Byte := (List.range k).map (fun i => memGet m (a + i))

/-- Bytes written into exchange memory by the part. -/
def State.store (s : State) (a : Nat) (bytes : List Byte) : State :=
  s.withPort { s.port with mem := memPutAll s.port.mem a bytes }

/-! ### Lines, channels and records by name -/

/-- A line's state. -/
def Lines.get (l : Lines) : Line → LineState
  | .ign => l.ign
  | .crank => l.crank
  | .clutch => l.clutch
  | .reverse => l.reverse

/-- The lines with one of them replaced. -/
def Lines.set (l : Lines) (line : Line) (v : LineState) : Lines :=
  match line with
  | .ign => { l with ign := v }
  | .crank => { l with crank := v }
  | .clutch => { l with clutch := v }
  | .reverse => { l with reverse := v }

/-- A channel's state. -/
def Pulse.get (p : Pulse) : Channel → ChannelState
  | .p0 => p.p0
  | .p1 => p.p1
  | .p2 => p.p2
  | .p3 => p.p3

/-- The channels with one of them replaced. -/
def Pulse.set (p : Pulse) (ch : Channel) (v : ChannelState) : Pulse :=
  match ch with
  | .p0 => { p with p0 := v }
  | .p1 => { p with p1 := v }
  | .p2 => { p with p2 := v }
  | .p3 => { p with p3 := v }

/-- The channels with `f` applied to each. -/
def Pulse.each (p : Pulse) (f : ChannelState → ChannelState) : Pulse :=
  { p with p0 := f p.p0, p1 := f p.p1, p2 := f p.p2, p3 := f p.p3 }

/-- A channel's tuned teeth count (03, 3.1). -/
def PulseTune.teeth (t : PulseTune) : Channel → Nat
  | .p0 => t.teeth0
  | .p1 => t.teeth1
  | .p2 => t.teeth2
  | .p3 => t.teeth3

/-- A quantity's record. -/
def Board.get (b : Board) : Quantity → QRecord
  | .engineSpeed => b.engineSpeed
  | .inputSpeed => b.inputSpeed
  | .outputSpeed => b.outputSpeed
  | .ptoSpeed => b.ptoSpeed
  | .engineTorque => b.engineTorque
  | .coolantTemp => b.coolantTemp
  | .clutch => b.clutch
  | .gear => b.gear

/-- The board with one record replaced. -/
def Board.set (b : Board) (q : Quantity) (v : QRecord) : Board :=
  match q with
  | .engineSpeed => { b with engineSpeed := v }
  | .inputSpeed => { b with inputSpeed := v }
  | .outputSpeed => { b with outputSpeed := v }
  | .ptoSpeed => { b with ptoSpeed := v }
  | .engineTorque => { b with engineTorque := v }
  | .coolantTemp => { b with coolantTemp := v }
  | .clutch => { b with clutch := v }
  | .gear => { b with gear := v }

/-- The eight quantities in the order of R20. -/
def allQuantities : List Quantity :=
  [.engineSpeed, .inputSpeed, .outputSpeed, .ptoSpeed, .engineTorque, .coolantTemp, .clutch, .gear]

/-- A quantity's place in the order of R20. -/
def quantityIndex : Quantity → Nat
  | .engineSpeed => 0
  | .inputSpeed => 1
  | .outputSpeed => 2
  | .ptoSpeed => 3
  | .engineTorque => 4
  | .coolantTemp => 5
  | .clutch => 6
  | .gear => 7

/-- Known: FRESH or HELD (R21). -/
def QRecord.known (r : QRecord) : Bool := decide (r.age ≠ .unknown)

/-! ### The free value -/

/-- The next draw of the free value, and the state that has drawn it (notes/assumptions/4.md). -/
def State.draw (s : State) : Bool × State := (Config.freeBit s.draws, s.withDraws (s.draws + 1))

/-- What a command does to a part that has supply; without supply nothing acts but POWER_ON (notes/assumptions/6.md). Every
command completes. -/
def State.act (s : State) (f : State → State) : Host.Outcome State Fault Refusal :=
  .next (if s.powered then f s else s)

/-- The debounced IGN level. -/
def State.ignOn (s : State) : Bool := s.lines.ign.level

/-- Recorder time now. -/
def State.now (s : State) : Nat := s.supply.recorderTime

end Sys2Proof.Machine
end

