-- ==== Sys2Proof/Machine/Flags.lean ====
section
/-! DEFINITION. What the part shows the host without being asked: the notices and ATTN (R152), and the control block
(R142, 12.3), whose fields each owner rewrites. -/

namespace Sys2Proof.Machine

/-! ### Notices -/

/-- The twelve notices (R152). -/
inductive Notice where
  | slip | checkpoint | torn | lowSupply | hold | channel | supply | quantity | abuse | residue | depot | route
deriving DecidableEq, Repr

/-- A notice's bit in NOTICE (12.2). -/
def Notice.bit : Notice → Nat
  | .slip => 0
  | .checkpoint => 1
  | .torn => 2
  | .lowSupply => 3
  | .hold => 4
  | .channel => 5
  | .supply => 6
  | .quantity => 7
  | .abuse => 8
  | .residue => 9
  | .depot => 10
  | .route => 11

/-- A notice's place in NOTICE. -/
def Notice.mask (n : Notice) : BitVec 12 := 1#12 <<< n.bit

/-- A notice is set (R152); while RESETn is low nothing is set (R153). -/
def State.setNotice (s : State) (n : Notice) : State :=
  if s.resetLow then s else s.withPort { s.port with notice := s.port.notice ||| n.mask }

/-- Whether a notice is set. -/
def State.noticeSet (s : State) (n : Notice) : Bool := s.port.notice.getLsbD n.bit

/-- ATTN is driven low while a notice is set and unmasked (R152). -/
def State.attnLow (s : State) : Bool := decide (s.port.notice &&& ~~~s.port.mask ≠ 0)

/-! ### Codes of the control block (12.3) -/

/-- RUN 0, DOZE 1, HOLD 2. -/
def PowerState.code : PowerState → Nat
  | .run => 0
  | .doze => 1
  | .hold => 2

/-- OFF 0, ARMED 1, CRANKING 2, CATCHING 3, RUNNING 4. -/
def StartState.code : StartState → Nat
  | .off => 0
  | .armed => 1
  | .cranking => 2
  | .catching => 3
  | .running => 4

/-- NORMAL 0, DEPOT 1. -/
def DepotState.code : DepotState → Nat
  | .normal => 0
  | .depot => 1

/-- IDLE 0, SCANNING 1, WAIT-SAVE 2. -/
def ScannerState.code : ScannerState → Nat
  | .idle => 0
  | .scanning => 1
  | .waitSave => 2

/-- POWER-ON 1, PIN 2. -/
def RestartCause.code : RestartCause → Nat
  | .powerOn => 1
  | .pin => 2

/-- RESTORED 0, TORN-SKIPPED 1, BLANK 2. -/
def RestoreOutcome.code : RestoreOutcome → Nat
  | .restored => 0
  | .tornSkipped => 1
  | .blank => 2

/-- UNKNOWN 0, FRESH 1, HELD 2. -/
def Age.code : Age → Nat
  | .unknown => 0
  | .fresh => 1
  | .held => 2

/-- NONE 0, PULSE 1, FRAME 2, LINE 3, DERIVED 4. -/
def Source.code : Source → Nat
  | .absent => 0
  | .pulse => 1
  | .frame => 2
  | .line => 3
  | .derived => 4

/-- A flag byte: 1 for set, which the spec says of the lockout flag and the hire state (12.3) and the model takes for the retired and
the released byte (notes/assumptions/29.md). -/
def flagByte (b : Bool) : Byte := if b then 1 else 0

/-! ### Fields of the control block -/

/-- A field written as one update (R140). While RESETn is low the port is held in reset and the memory stays zeroed; every
field is rewritten when RESETn goes high (R153, notes/assumptions/12.md). -/
def State.publish (s : State) (a : Nat) (bytes : List Byte) : State :=
  if s.resetLow then s else s.store a bytes

/-- The 4 bytes of IDENT and of the identity copy (12.2): part code 0x0316, revision 1. -/
def identBytes : List Byte := leBytes 2 0x0316 ++ [1, 0]

/-- A quantity record of the mirror and of PEEK, 12 bytes (12.3, R174). -/
def QRecord.bytes (r : QRecord) : List Byte :=
  leInt16 r.value ++ leBytes 1 r.age.code ++ leBytes 1 r.source.code ++ leBytes 8 (r.sampledAt.getD 0)

/-- The hire number the control block shows: the open hire's, or with none open the last closed (R139). -/
def HireRegister.shownNumber (h : HireRegister) : Nat :=
  match h.hire with
  | some hr => hr.number
  | none => h.lastClosed

/-- The identity copy is rewritten (R142). -/
def State.publishIdentity (s : State) : State := s.publish 0x00 identBytes

/-- The power state is rewritten (R162). -/
def State.publishPower (s : State) : State := s.publish 0x04 (leBytes 1 s.supply.power.code)

/-- The start state is rewritten (R88). -/
def State.publishStart (s : State) : State := s.publish 0x05 (leBytes 1 s.monitor.state.code)

/-- The depot state and the lockout flag are rewritten (R154). -/
def State.publishDepot (s : State) : State :=
  s.publish 0x06 (leBytes 1 s.depot.state.code ++ [flagByte s.depot.lockout])

/-- The hire state and the hire number are rewritten (R139). -/
def State.publishHire (s : State) : State :=
  (s.publish 0x08 [flagByte s.hires.hire.isSome]).publish 0x10 (leBytes 4 s.hires.shownNumber)

/-- The scanner's state and cursor are rewritten (R142). -/
def State.publishScanner (s : State) : State :=
  s.publish 0x09 (leBytes 1 s.scanner.state.code ++ leBytes 1 s.scanner.cursor)

/-- The last restart cause is rewritten (R142). -/
def State.publishCause (s : State) : State := s.publish 0x0B (leBytes 1 s.port.cause.code)

/-- The restore outcome is rewritten (R142). -/
def State.publishOutcome (s : State) : State := s.publish 0x0C (leBytes 1 s.journal.outcome.code)

/-- The newest sequence and the last checkpoint time are rewritten (R168). -/
def State.publishJournal (s : State) : State :=
  (s.publish 0x14 (leBytes 4 s.journal.newestSequence)).publish 0x20 (leBytes 8 s.journal.lastTime)

/-- Recorder time is rewritten (R167). -/
def State.publishTime (s : State) : State := s.publish 0x18 (leBytes 8 s.supply.recorderTime)

/-- The seven tallies in the order of 12.3. -/
def Tallies.inOrder (t : Tallies) : List Nat :=
  [t.taken, t.unrouted, t.shortFrame, t.na, t.clamped, t.late, t.shadowed]

/-- All seven tallies are rewritten (R68). -/
def State.publishTallies (s : State) : State :=
  s.publish 0x28 (s.intake.tallies.inOrder.flatMap (leBytes 4))

/-- A record's mirror is rewritten (R35). -/
def State.publishRecord (s : State) (q : Quantity) : State :=
  s.publish (0x50 + 12 * quantityIndex q) (s.board.get q).bytes

/-- The eight records of the mirror (R35). -/
def Board.bytes (b : Board) : List Byte := allQuantities.flatMap (fun q => (b.get q).bytes)

/-- The whole mirror is rewritten (R23, R35). -/
def State.publishMirror (s : State) : State := s.publish 0x50 s.board.bytes

/-- Every field of the control block is rewritten (R142, R153). -/
def State.publishAll (s : State) : State :=
  s.publishIdentity.publishPower.publishStart.publishDepot.publishHire.publishScanner.publishCause.publishOutcome
    |>.publishJournal |>.publishTime |>.publishTallies |>.publishMirror

/-! ### One tally -/

/-- The intake tallies by name (R68). -/
inductive Tally where
  | taken | unrouted | shortFrame | na | clamped | late | shadowed
deriving DecidableEq, Repr

/-- A tally's place in the control block's order (12.3). -/
def Tally.index : Tally → Nat
  | .taken => 0
  | .unrouted => 1
  | .shortFrame => 2
  | .na => 3
  | .clamped => 4
  | .late => 5
  | .shadowed => 6

/-- A tally's value. -/
def Tallies.get (t : Tallies) : Tally → Nat
  | .taken => t.taken
  | .unrouted => t.unrouted
  | .shortFrame => t.shortFrame
  | .na => t.na
  | .clamped => t.clamped
  | .late => t.late
  | .shadowed => t.shadowed

/-- The tallies with one of them replaced. -/
def Tallies.set (t : Tallies) (k : Tally) (v : Nat) : Tallies :=
  match k with
  | .taken => { t with taken := v }
  | .unrouted => { t with unrouted := v }
  | .shortFrame => { t with shortFrame := v }
  | .na => { t with na := v }
  | .clamped => { t with clamped := v }
  | .late => { t with late := v }
  | .shadowed => { t with shadowed := v }

/-- A tally is incremented, saturating, and written to the control block when that changes it (R68). -/
def State.bumpTally (s : State) (k : Tally) : State :=
  let old := s.intake.tallies.get k
  let new := satAdd Config.tallyCeiling old 1
  if new = old then s
  else (s.withIntake { s.intake with tallies := s.intake.tallies.set k new }).publish
    (0x28 + 4 * k.index) (leBytes 4 new)

end Sys2Proof.Machine
end

