-- ==== Sys2Proof/Machine/Operands.lean ====
section
/-! DEFINITION. Every operand form of the commands that come as slips, by the layouts of 12_formats.md: slips and their
references, frame records, route entries, component records, selectors, hire and bucket records, tune sections. Reading
follows R173 and writing R174. -/

namespace Sys2Proof.Machine

/-! ### Slips (12.4) -/

/-- Status codes (12.4). -/
inductive Status where
  | done | doneClamped | badKind | badReference | badLength | shortSpace | notInDepot | inDepot | hireOpenAlready | noHire
  | slotTaken | noSuchSlot | badSlotSpec | badImport | badRoute | badTune | alreadyTuned | wrongCode | lockedOut
  | engineRunning | depotAlready
deriving DecidableEq, Repr

/-- A status's code (12.4). -/
def Status.code : Status → Nat
  | .done => 0
  | .doneClamped => 1
  | .badKind => 2
  | .badReference => 3
  | .badLength => 4
  | .shortSpace => 5
  | .notInDepot => 6
  | .inDepot => 7
  | .hireOpenAlready => 8
  | .noHire => 9
  | .slotTaken => 10
  | .noSuchSlot => 11
  | .badSlotSpec => 12
  | .badImport => 13
  | .badRoute => 14
  | .badTune => 15
  | .alreadyTuned => 16
  | .wrongCode => 17
  | .lockedOut => 18
  | .engineRunning => 19
  | .depotAlready => 20

/-- The kind of a kind code; the codes outside the table name none (12.4, R173). -/
def kindOfCode : Nat → Option SlipKind
  | 1 => some .feed
  | 2 => some .route
  | 3 => some .fit
  | 4 => some .unfit
  | 5 => some .peek
  | 6 => some .hireOpen
  | 7 => some .hireClose
  | 8 => some .depotIn
  | 9 => some .depotOut
  | 10 => some .tune
  | 11 => some .save
  | 12 => some .nop
  | _ => none

/-- The address of the slip at a ring index (9.1). -/
def slipAddress (index : Nat) : Nat := Config.ringBase + 16 * index

/-- The slip at an address, its kind given (12.4). -/
def readSlip (m : Memory) (a : Nat) (kind : SlipKind) : Slip where
  kind := kind
  flags := memGet m (a + 2)
  inOffset := memLe m 2 (a + 6)
  inLength := memLe m 2 (a + 8)
  outOffset := memLe m 2 (a + 10)
  outLength := memLe m 2 (a + 12)

/-- NOTIFY (12.4). -/
def Slip.notify (p : Slip) : Bool := p.flags.getLsbD 0

/-- RING-END (12.4). -/
def Slip.ringEnd (p : Slip) : Bool := p.flags.getLsbD 1

/-- RETIRE (12.4). -/
def Slip.retire (p : Slip) : Bool := p.flags.getLsbD 2

/-- CLEAR (12.4). -/
def Slip.clear (p : Slip) : Bool := p.flags.getLsbD 3

/-- A reference is good when its length is 0 or it lies inside the buffer area (R144). -/
def referenceGood (offset length : Nat) : Bool :=
  decide (length = 0 ∨
    (length ≤ Config.bufferSize ∧ Config.bufferBase ≤ offset ∧ offset + length - 1 ≤ 0x7FFF))

/-- Both references of a slip are good (R144). -/
def Slip.referencesGood (p : Slip) : Bool :=
  referenceGood p.inOffset p.inLength && referenceGood p.outOffset p.outLength

/-! ### Frame records and route entries (12.5) -/

/-- The frame record at an address: tag in bits 0..28, data-length code in bits 29..31, where code 0 is a length of 8. -/
def readFrame (m : Memory) (a : Nat) : Frame :=
  let word : BitVec 32 := BitVec.ofNat 32 (memLe m 4 a)
  let code := (word >>> 29).toNat
  { tag := word.setWidth 29
    time := BitVec.ofNat 32 (memLe m 4 (a + 4))
    length := if code = 0 then 8 else code
    data := memBytes m 8 (a + 8) }

/-- The target of a target code (12.5). -/
def targetOfCode : Nat → Option RouteTarget
  | 0 => some .engineSpeed
  | 2 => some .outputSpeed
  | 4 => some .engineTorque
  | 5 => some .coolantTemp
  | 6 => some .clutch
  | 7 => some .gear
  | _ => none

/-- The route entry at an address, or `none` for one that R58 check 4 refuses. -/
def readRouteEntry (m : Memory) (a : Nat) : Option RouteEntry :=
  match targetOfCode (memGet m (a + 4)).toNat with
  | none => none
  | some target =>
    let startBit := (memGet m (a + 5)).toNat
    let width := (memGet m (a + 6)).toNat
    let multiplier := memLe m 2 (a + 8)
    let divisor := memLe m 2 (a + 10)
    if startBit > 63 ∨ width = 0 ∨ width > 16 ∨ startBit + width > 64 ∨ multiplier = 0 ∨ divisor = 0 then none
    else some
      { tag := BitVec.ofNat 29 (memLe m 4 a)
        target := target
        startBit := startBit
        width := width
        signed := decide (memGet m (a + 7) ≠ 0)
        multiplier := multiplier
        divisor := divisor
        offset := signed16 (memLe m 2 (a + 12)) }

/-- The entries of a ROUTE in-buffer from an address on, or the index of the first entry that R58 check 4 refuses. -/
def readRouteEntries (m : Memory) : Nat → Nat → Nat → Except Nat (List RouteEntry)
  | 0, _, _ => .ok []
  | n + 1, index, a =>
    match readRouteEntry m a with
    | none => .error index
    | some e =>
      match readRouteEntries m n (index + 1) (a + 16) with
      | .error i => .error i
      | .ok rest => .ok (e :: rest)

/-- Two entries with the same tag and the same target (R56). -/
def RouteEntry.clash (e f : RouteEntry) : Bool := decide (e.tag = f.tag ∧ e.target = f.target)

/-- The index of the first entry that clashes with an earlier one (R58 check 5). -/
def firstClash (earlier : List RouteEntry) : List RouteEntry → Nat → Option Nat
  | [], _ => none
  | e :: rest, i => if earlier.any e.clash then some i else firstClash (earlier ++ [e]) rest (i + 1)

/-! ### Component records (12.6) -/

/-- A class's code. -/
def ComponentClass.code : ComponentClass → Nat
  | .engine => 1
  | .starter => 2
  | .clutch => 3
  | .gearbox => 4
  | .axle => 5
  | .pto => 6

/-- The class of a code. -/
def classOfCode : Nat → Option ComponentClass
  | 1 => some .engine
  | 2 => some .starter
  | 3 => some .clutch
  | 4 => some .gearbox
  | 5 => some .axle
  | 6 => some .pto
  | _ => none

/-- The class a body is of. -/
def Body.cls : Body → ComponentClass
  | .engine _ => .engine
  | .starter _ => .starter
  | .clutch _ => .clutch
  | .gearbox _ => .gearbox
  | .axle _ => .axle
  | .pto _ => .pto

/-- A record's class (R2). -/
def Component.cls (c : Component) : ComponentClass := c.body.cls

/-- The residue of a GEARBOX or AXLE body (R5). -/
def Body.residue : Body → Option Residue
  | .gearbox b => some b.residue
  | .axle b => some b.residue
  | _ => none

/-- The positions a class allows: 1, or 1..3 for AXLE (R2). -/
def positionGood (cls : ComponentClass) (position : Nat) : Bool :=
  decide (1 ≤ position ∧ position ≤ (if cls = .axle then 3 else 1))

/-- The length of a class's export record without stack points (12.6). -/
def ComponentClass.baseLength : ComponentClass → Nat
  | .engine => 212
  | .starter => 60
  | .clutch => 60
  | .pto => 56
  | .gearbox => 188
  | .axle => 60

/-- The number of stack points a body holds, 0 for the classes without a stack (R174). -/
def Body.points (b : Body) : Nat := match b.residue with
  | some r => r.stack.length
  | none => 0

/-- The length of a record's export (12.6). -/
def Component.exportLength (c : Component) : Nat := c.cls.baseLength + 2 * c.body.points

/-- A class body with every counter 0, empty stack and no candidate (R15). -/
def freshBody : ComponentClass → Body
  | .engine => .engine ⟨.zero, 0, 0, List.replicate 17 0, 0⟩
  | .starter => .starter ⟨0, 0, 0, 0⟩
  | .clutch => .clutch ⟨0, 0, 0, 0⟩
  | .gearbox => .gearbox ⟨0, List.replicate 16 0, ⟨0, 0, [], none⟩⟩
  | .axle => .axle ⟨0, ⟨0, 0, [], none⟩⟩
  | .pto => .pto ⟨0, 0⟩

/-- The four start counts, 4 bytes each. -/
def StartCounts.bytes (c : StartCounts) : List Byte :=
  leBytes 4 c.cold ++ leBytes 4 c.warm ++ leBytes 4 c.hot ++ leBytes 4 c.unobserved

/-- A direction's code; absent is 0 (12.6). -/
def directionCode : Option Candidate → Nat
  | none => 0
  | some c => match c.direction with
    | .rising => 1
    | .falling => 2

/-- Candidate value, zero, stack: the end of a GEARBOX or AXLE record (12.6, R174). -/
def Residue.tailBytes (r : Residue) : List Byte :=
  leInt16 ((r.candidate.map (·.value)).getD 0) ++ leBytes 2 0 ++ r.stack.flatMap leInt16

/-- The class fields of a body, from offset 40 (12.6). -/
def Body.bytes : Body → List Byte
  | .engine b => b.starts.bytes ++ leBytes 8 b.run ++ leBytes 8 b.idle ++ b.cells.flatMap (leBytes 8)
      ++ leBytes 4 b.overspeeds
  | .starter b => leBytes 4 b.attempts ++ leBytes 4 b.failed ++ leBytes 4 b.long ++ leBytes 8 b.crankTime
  | .clutch b => leBytes 4 b.engagements ++ leBytes 4 b.hotSlips ++ leBytes 8 b.energy ++ leBytes 2 b.remainder
      ++ leBytes 2 0
  | .pto b => leBytes 8 b.time ++ leBytes 4 b.engagements ++ leBytes 4 0
  | .gearbox b => leBytes 4 b.shifts ++ leBytes 4 b.residue.drops ++ leBytes 8 b.residue.damage
      ++ b.cells.flatMap (leBytes 8) ++ b.residue.tailBytes
  | .axle b => leBytes 8 b.residue.damage ++ leBytes 4 b.residue.drops ++ leBytes 4 b.clampedSamples
      ++ b.residue.tailBytes

/-- The 16 serial bytes of a record, zero beyond the serial (12.6, 12.8, R174). -/
def serialBytes (serial : List Byte) : List Byte := padTo 16 serial

/-- The export record of a component (12.6), with its retired flag. -/
def Component.exportBytes (c : Component) (retired : Bool) : List Byte :=
  leBytes 1 c.cls.code ++ leBytes 1 c.position ++ leBytes 1 c.serial.length ++ [0] ++ serialBytes c.serial
    ++ leBytes 8 c.fittedAt ++ leBytes 4 c.fitCount ++ [flagByte retired, 0, 0, 0]
    ++ leBytes 1 c.cls.code ++ leBytes 1 c.body.points
    ++ leBytes 1 (directionCode (c.body.residue.bind (·.candidate))) ++ [0] ++ c.body.bytes

/-- The eight-byte counts at an address. -/
def readCells (m : Memory) (n a : Nat) : List Nat := (List.range n).map (fun i => memLe m 8 (a + 8 * i))

/-- The signed 16-bit stack points at an address, oldest first. -/
def readStack (m : Memory) (n a : Nat) : List Int := (List.range n).map (fun i => signed16 (memLe m 2 (a + 2 * i)))

/-- The candidate of an import: direction code and value (12.6; the value is ignored when the direction is 0, R173). -/
def readCandidate (direction : Nat) (value : Int) : Option Candidate :=
  if direction = 1 then some ⟨value, .rising⟩ else if direction = 2 then some ⟨value, .falling⟩ else none

/-- The body of an import whose record begins at `a` (12.6). -/
def readBody (m : Memory) (a : Nat) : ComponentClass → Body
  | .engine => .engine
      { starts := ⟨memLe m 4 (a + 40), memLe m 4 (a + 44), memLe m 4 (a + 48), memLe m 4 (a + 52)⟩
        run := memLe m 8 (a + 56)
        idle := memLe m 8 (a + 64)
        cells := readCells m 17 (a + 72)
        overspeeds := memLe m 4 (a + 208) }
  | .starter => .starter ⟨memLe m 4 (a + 40), memLe m 4 (a + 44), memLe m 4 (a + 48), memLe m 8 (a + 52)⟩
  | .clutch => .clutch ⟨memLe m 4 (a + 40), memLe m 4 (a + 44), memLe m 8 (a + 48), memLe m 2 (a + 56)⟩
  | .pto => .pto ⟨memLe m 8 (a + 40), memLe m 4 (a + 48)⟩
  | .gearbox => .gearbox
      { shifts := memLe m 4 (a + 40)
        cells := readCells m 16 (a + 56)
        residue :=
          { damage := memLe m 8 (a + 48)
            drops := memLe m 4 (a + 44)
            stack := readStack m (memGet m (a + 37)).toNat (a + 188)
            candidate := readCandidate (memGet m (a + 38)).toNat (signed16 (memLe m 2 (a + 184))) } }
  | .axle => .axle
      { clampedSamples := memLe m 4 (a + 52)
        residue :=
          { damage := memLe m 8 (a + 40)
            drops := memLe m 4 (a + 48)
            stack := readStack m (memGet m (a + 37)).toNat (a + 60)
            candidate := readCandidate (memGet m (a + 38)).toNat (signed16 (memLe m 2 (a + 56))) } }

/-- The serial of a fit header or export header at `a`: as many bytes as its length says (12.6). -/
def readSerial (m : Memory) (a : Nat) : List Byte := memBytes m (memGet m (a + 2)).toNat (a + 4)

/-- R12 check 3 passes: position, serial length and serial characters are good for the class. -/
def headerGood (m : Memory) (a : Nat) (cls : ComponentClass) : Bool :=
  positionGood cls (memGet m (a + 1)).toNat
    && decide (1 ≤ (memGet m (a + 2)).toNat ∧ (memGet m (a + 2)).toNat ≤ 16)
    && (readSerial m a).all (fun b => decide (0x20 ≤ b.toNat ∧ b.toNat ≤ 0x7E))

/-- Successive points differ, and their differences alternate in sign (R14, R108). -/
def alternates : List Int → Bool
  | p :: q :: s :: rest => decide ((q - p) * (s - q) < 0) && alternates (q :: s :: rest)
  | [p, q] => decide (p ≠ q)
  | _ => true

/-- The magnitude of a class's channel range (R5). -/
def ComponentClass.range : ComponentClass → Int
  | .axle => 2047
  | _ => 250

/-- The candidate points away from the newest point, by at least one step, against the newest difference (R14). The stack
is given newest first. -/
def candidateGood : List Int → Option Candidate → Bool
  | _, none => true
  | [], some _ => false
  | newest :: older, some c =>
    match c.direction with
    | .rising => decide (newest + 1 ≤ c.value) && (match older with
        | [] => true
        | o :: _ => decide (newest < o))
    | .falling => decide (c.value ≤ newest - 1) && (match older with
        | [] => true
        | o :: _ => decide (o < newest))

/-- The residue of an import is one the gate could have left (R14). -/
def Residue.importable (r : Residue) (range : Int) : Bool :=
  decide (r.damage ≤ Config.damageCeiling)
    && r.stack.all (fun p => decide (-range ≤ p ∧ p ≤ range))
    && (match r.candidate with
      | none => true
      | some c => decide (-range ≤ c.value ∧ c.value ≤ range))
    && alternates r.stack
    && candidateGood r.stack.reverse r.candidate

/-- The content checks of R14 on a body. -/
def Body.importable : Body → Bool
  | .engine b => decide (b.run ≤ Config.timeCeiling ∧ b.idle ≤ b.run ∧ b.cells.sum = b.run)
      && b.cells.all (fun c => decide (c ≤ Config.timeCeiling))
  | .starter b => decide (b.crankTime ≤ Config.timeCeiling)
  | .clutch b => decide (b.energy ≤ Config.energyCeiling ∧ b.remainder < Config.energyDivisor)
  | .pto b => decide (b.time ≤ Config.timeCeiling)
  | .gearbox b => decide (b.cells.sum ≤ Config.timeCeiling) && b.residue.importable 250
  | .axle b => b.residue.importable 2047

/-- Whether a class has a residue. -/
def ComponentClass.hasResidue : ComponentClass → Bool
  | .gearbox => true
  | .axle => true
  | _ => false

/-- The refusal of an import at `a` of `length` bytes whose header is of class `cls`, if R173, R13 or R14 gives one, in
their order. A body-head class byte with a code outside the class table is a class that differs from the header's, BAD-IMPORT by
check 2 of R13, although R173 gives BAD-SLOT-SPEC for a class code: the model's choice (DESIGN CHOICE, notes/assumptions/32.md). -/
def importRefusal (m : Memory) (a length : Nat) (cls : ComponentClass) : Option Status :=
  let points := (memGet m (a + 37)).toNat
  let direction := (memGet m (a + 38)).toNat
  let fitCount := memLe m 4 (a + 28)
  if length < 40 then some .badLength
  else if memGet m (a + 32) ≠ 0 then some .badImport
  else if classOfCode (memGet m (a + 36)).toNat ≠ some cls then some .badImport
  else if !cls.hasResidue && decide (points ≠ 0 ∨ direction ≠ 0) then some .badImport
  else if direction > 2 then some .badImport
  else if points > Config.stackLimit then some .badImport
  else if length ≠ cls.baseLength + 2 * points then some .badLength
  else if fitCount = 0 ∨ fitCount = Config.eventCeiling then some .badImport
  else if !(readBody m a cls).importable then some .badImport
  else none

/-! ### Selectors (12.7) -/

/-- What a slot selector names (12.7). -/
inductive SlotSpec where
  | byNumber (n : Nat)
  | byPlace (cls : ComponentClass) (position : Nat)
deriving DecidableEq, Repr

/-- A slot spec from its mode and the three bytes after it, or `none` for one that R16 check 3 refuses. -/
def readSlotSpec (m : Memory) (a mode : Nat) : Option SlotSpec :=
  if mode = 0 then
    if (memGet m (a + 1)).toNat < Config.slotCount then some (.byNumber (memGet m (a + 1)).toNat) else none
  else if mode = 1 then
    match classOfCode (memGet m (a + 2)).toNat with
    | none => none
    | some cls =>
      if positionGood cls (memGet m (a + 3)).toNat then some (.byPlace cls (memGet m (a + 3)).toNat) else none
  else none

/-- What a peek selector names (12.7). -/
inductive PeekTarget where
  | slot (spec : SlotSpec)
  | openHire
  | bucket
  | quantities
deriving DecidableEq, Repr

/-- A peek selector, or `none` for one that R19 check 2 refuses. -/
def readPeekTarget (m : Memory) (a : Nat) : Option PeekTarget :=
  let target := (memGet m a).toNat
  if target = 2 then some .openHire
  else if target = 3 then some .bucket
  else if target = 4 then some .quantities
  else (readSlotSpec m a target).map .slot

/-! ### Hire summaries and bucket records (12.8) -/

/-- A list entry, 32 bytes. -/
def DamageEntry.bytes (e : DamageEntry) : List Byte :=
  leBytes 1 e.slot ++ leBytes 1 e.cls.code ++ leBytes 1 e.position ++ leBytes 1 e.serial.length
    ++ serialBytes e.serial ++ leBytes 8 e.delta ++ [flagByte e.released, 0, 0, 0]

/-- The counts from offset 24 to 104. -/
def Counts.bytes (c : Counts) : List Byte :=
  c.starts.bytes ++ leBytes 4 c.failedCranks ++ leBytes 4 c.longCranks ++ leBytes 4 c.overspeeds
    ++ leBytes 4 c.engagements ++ leBytes 4 c.hotSlips ++ leBytes 4 c.shifts
    ++ leBytes 8 c.run ++ leBytes 8 c.idle ++ leBytes 8 c.pto ++ leBytes 8 c.crank ++ leBytes 8 c.energy

/-- A hire summary or bucket record: number, opened-at, closed-at or its like, counts, entries. -/
def registerBytes (number openedAt closedAt : Nat) (counts : Counts) (entries : List DamageEntry) : List Byte :=
  leBytes 4 number ++ leBytes 1 entries.length ++ [0, 0, 0] ++ leBytes 8 openedAt ++ leBytes 8 closedAt
    ++ counts.bytes ++ entries.flatMap (·.bytes)

/-- The length of a record with `k` entries. -/
def registerLength (k : Nat) : Nat := 104 + 32 * k

/-- The hire summary, closed or copied at a time (R136, R139). -/
def Hire.bytes (h : Hire) (time : Nat) : List Byte := registerBytes h.number h.openedAt time h.counts h.entries

/-- The bucket record, handed or copied at a time (R134, R139). -/
def Bucket.bytes (b : Bucket) (time : Nat) : List Byte := registerBytes 0 b.openedAt time b.counts b.entries

/-! ### Tune sections (12.9, R160) -/

/-- The section of a section code. -/
def sectionOfCode : Nat → Option TuneSection
  | 1 => some .supply
  | 2 => some .start
  | 3 => some .engine
  | 4 => some .clutch
  | 5 => some .gearbox
  | 6 => some .axle
  | 7 => some .pulse
  | 8 => some .journal
  | 9 => some .code
  | _ => none

/-- A section's length, its 4-byte code included. -/
def TuneSection.length : TuneSection → Nat
  | .supply => 8
  | .start => 18
  | .engine => 24
  | .clutch => 8
  | .gearbox => 70
  | .axle => 40
  | .pulse => 12
  | .journal => 8
  | .code => 8

/-- How many of the fields clamping changed (R161). -/
def countChanged (raw clamped : List Int) : Nat := ((raw.zip clamped).filter (fun p => p.1 ≠ p.2)).length

/-- The SUPPLY section at `a`, or `none` for a code outside its table (R160, R173). -/
def readSupplyTune (m : Memory) (a : Nat) : Option SupplyTune :=
  let voltage := (memGet m (a + 4)).toNat
  let source := (memGet m (a + 5)).toNat
  if (voltage = 12 ∨ voltage = 24) ∧ (source = 0 ∨ source = 1) then
    some ⟨if voltage = 24 then .v24 else .v12, if source = 1 then .dip else .line⟩
  else none

/-- The START section at `a`, as written. -/
def readStartTune (m : Memory) (a : Nat) : StartTune where
  run := memLe m 2 (a + 4)
  stop := memLe m 2 (a + 6)
  longCrank := memLe m 2 (a + 8)
  catchTime := memLe m 2 (a + 10)
  hotWindow := memLe m 2 (a + 12)
  coldLimit := signed16 (memLe m 2 (a + 14))
  clutchWired := (memGet m (a + 16)).getLsbD 0
  reverseWired := (memGet m (a + 16)).getLsbD 1

/-- The START section clamped (R72). -/
def StartTune.clamp (t : StartTune) : StartTune :=
  { t with
    run := clampNat 300 1200 t.run
    stop := clampNat 100 600 t.stop
    longCrank := clampNat 3 30 t.longCrank
    catchTime := clampNat 500 5000 t.catchTime
    hotWindow := clampNat 10 600 t.hotWindow
    coldLimit := clampInt (-40) 60 t.coldLimit }

/-- The stop threshold lies below the run threshold (R72). -/
def StartTune.sound (t : StartTune) : Bool := decide (t.stop < t.run)

/-- The ranged fields of START. -/
def StartTune.fields (t : StartTune) : List Int :=
  [t.run, t.stop, t.longCrank, t.catchTime, t.hotWindow, t.coldLimit]

/-- The ENGINE section at `a`, as written. -/
def readEngineTune (m : Memory) (a : Nat) : EngineTune where
  s1 := memLe m 2 (a + 4)
  s2 := memLe m 2 (a + 6)
  s3 := memLe m 2 (a + 8)
  t1 := signed16 (memLe m 2 (a + 10))
  t2 := signed16 (memLe m 2 (a + 12))
  t3 := signed16 (memLe m 2 (a + 14))
  idle := memLe m 2 (a + 16)
  overspeed := memLe m 2 (a + 18)
  reference := memLe m 2 (a + 20)

/-- The ENGINE section clamped (R92). -/
def EngineTune.clamp (t : EngineTune) : EngineTune where
  s1 := clampNat 0 8000 t.s1
  s2 := clampNat 0 8000 t.s2
  s3 := clampNat 0 8000 t.s3
  t1 := clampInt (-250) 250 t.t1
  t2 := clampInt (-250) 250 t.t2
  t3 := clampInt (-250) 250 t.t3
  idle := clampNat 300 1500 t.idle
  overspeed := clampNat 1000 8000 t.overspeed
  reference := clampNat 100 5000 t.reference

/-- Both triples of band limits are strictly increasing (R92). -/
def EngineTune.sound (t : EngineTune) : Bool :=
  decide (t.s1 < t.s2 ∧ t.s2 < t.s3 ∧ t.t1 < t.t2 ∧ t.t2 < t.t3)

/-- The fields of ENGINE. -/
def EngineTune.fields (t : EngineTune) : List Int :=
  [t.s1, t.s2, t.s3, t.t1, t.t2, t.t3, t.idle, t.overspeed, t.reference]

/-- The CLUTCH section at `a`, as written. -/
def readClutchTune (m : Memory) (a : Nat) : ClutchTune := ⟨memLe m 2 (a + 4), memLe m 2 (a + 6)⟩

/-- The CLUTCH section clamped (R99). -/
def ClutchTune.clamp (t : ClutchTune) : ClutchTune := ⟨clampNat 10 200 t.floor, clampNat 1 2000 t.hotSlip⟩

/-- The two-byte fields at an address. -/
def readWords (m : Memory) (n a : Nat) : List Nat := (List.range n).map (fun i => memLe m 2 (a + 2 * i))

/-- Gate and bin width clamped (R109). Every two-byte weight lies within 0..65535. -/
def CycleTune.clamp (t : CycleTune) : CycleTune :=
  { t with gate := clampNat 1 64 t.gate, width := clampNat 1 256 t.width }

/-- The ratios clamped within the tuned count and kept as written beyond it (R160). -/
def clampRatios (count : Nat) (ratios : List Nat) : List Nat :=
  ratios.mapIdx (fun i q => if i < count then clampNat 64 2047 q else q)

/-- The GEARBOX section at `a`, as written. -/
def readGearTune (m : Memory) (a : Nat) : GearTune where
  forward := (memGet m (a + 4)).toNat
  reverse := (memGet m (a + 5)).toNat
  tolerance := (memGet m (a + 6)).toNat
  forwardRatios := readWords m 12 (a + 10)
  reverseRatios := readWords m 2 (a + 34)
  cycle := ⟨(memGet m (a + 7)).toNat, memLe m 2 (a + 8), readWords m 16 (a + 38)⟩

/-- The GEARBOX section clamped (R33, R109, R160): the counts first, then the ratios within them. -/
def GearTune.clamp (t : GearTune) : GearTune where
  forward := clampNat 1 12 t.forward
  reverse := clampNat 0 2 t.reverse
  tolerance := clampNat 1 10 t.tolerance
  forwardRatios := clampRatios (clampNat 1 12 t.forward) t.forwardRatios
  reverseRatios := clampRatios (clampNat 0 2 t.reverse) t.reverseRatios
  cycle := t.cycle.clamp

/-- Each number is below the one before it. -/
def strictlyDecreasing : List Nat → Bool
  | p :: q :: rest => decide (q < p) && strictlyDecreasing (q :: rest)
  | _ => true

/-- The forward count is not 0, and the forward ratios fall strictly over it (R33). -/
def GearTune.sound (t : GearTune) : Bool :=
  decide (t.forward ≠ 0) && strictlyDecreasing (t.forwardRatios.take t.forward)

/-- The fields of a class's cycle parameters. -/
def CycleTune.fields (t : CycleTune) : List Int := [(t.gate : Int), (t.width : Int)]

/-- The fields of GEARBOX. -/
def GearTune.fields (t : GearTune) : List Int :=
  [(t.forward : Int), (t.reverse : Int), (t.tolerance : Int)] ++ t.forwardRatios.map Int.ofNat
    ++ t.reverseRatios.map Int.ofNat ++ t.cycle.fields

/-- The AXLE section at `a`, as written. -/
def readAxleTune (m : Memory) (a : Nat) : CycleTune :=
  ⟨(memGet m (a + 4)).toNat, memLe m 2 (a + 6), readWords m 16 (a + 8)⟩

/-- The PULSE section at `a`, as written. -/
def readPulseTune (m : Memory) (a : Nat) : PulseTune :=
  ⟨(memGet m (a + 4)).toNat, (memGet m (a + 5)).toNat, (memGet m (a + 6)).toNat, (memGet m (a + 7)).toNat,
    (memGet m (a + 8)).toNat⟩

/-- The PULSE section clamped (03, 3.1). -/
def PulseTune.clamp (t : PulseTune) : PulseTune :=
  ⟨clampNat 0 240 t.teeth0, clampNat 0 240 t.teeth1, clampNat 0 240 t.teeth2, clampNat 0 240 t.teeth3,
    clampNat 1 15 t.limit⟩

/-- The fields of PULSE. -/
def PulseTune.fields (t : PulseTune) : List Int := [t.teeth0, t.teeth1, t.teeth2, t.teeth3, t.limit]

/-- The tune set with the section at `a` in it, clamped, and how many fields clamping changed; `none` where a structural
check refuses the section, as written or as clamped (R159 check 5). -/
def readSection (old : TuneSet) (m : Memory) (a : Nat) : TuneSection → Option (TuneSet × Nat)
  | .supply => (readSupplyTune m a).map (fun t => ({ old with supply := t }, 0))
  | .start =>
    let raw := readStartTune m a
    if raw.sound && raw.clamp.sound then some ({ old with start := raw.clamp }, countChanged raw.fields raw.clamp.fields)
    else none
  | .engine =>
    let raw := readEngineTune m a
    if raw.sound && raw.clamp.sound then some ({ old with engine := raw.clamp }, countChanged raw.fields raw.clamp.fields)
    else none
  | .clutch =>
    let raw := readClutchTune m a
    some ({ old with clutch := raw.clamp },
      countChanged [(raw.floor : Int), (raw.hotSlip : Int)] [(raw.clamp.floor : Int), (raw.clamp.hotSlip : Int)])
  | .gearbox =>
    let raw := readGearTune m a
    if raw.sound && raw.clamp.sound then some ({ old with gearbox := raw.clamp }, countChanged raw.fields raw.clamp.fields)
    else none
  | .axle =>
    let raw := readAxleTune m a
    some ({ old with axle := raw.clamp }, countChanged raw.fields raw.clamp.fields)
  | .pulse =>
    let raw := readPulseTune m a
    some ({ old with pulse := raw.clamp }, countChanged raw.fields raw.clamp.fields)
  | .journal =>
    let raw := memLe m 2 (a + 4)
    some ({ old with period := clampNat 60 3600 raw }, countChanged [(raw : Int)] [(clampNat 60 3600 raw : Int)])
  | .code => some ({ old with code := memLe m 4 (a + 4) }, 0)

end Sys2Proof.Machine
end

