-- ==== Sys2Proof/Machine/Journal.lean ====
section
/-! DEFINITION. The checkpoint journal (R168 to R171): snapshots, triggers, the start and the abandonment of a checkpoint, and
the journal's two timers. -/

namespace Sys2Proof.Machine

/-- The persistent state as it stands (R168, R170). -/
def State.snapshot (s : State) : Snapshot where
  recorderTime := s.supply.recorderTime
  slots := s.slots
  hire := s.hires.hire
  bucket := s.hires.bucket
  routes := s.intake.routes.map (·.entry)
  tune := s.tune

/-- The page after a page, cyclically from 63 to 0 (R170). -/
def nextPage (page : Nat) : Nat := if page + 1 < Config.pageCount then page + 1 else 0

/-- The page a fresh checkpoint writes: the one after the newest, or page 0 (R170). -/
def Journal.target (j : Journal) : Nat := match j.newestPage with
  | some page => nextPage page
  | none => 0

/-- The highest sequence a page can hold (R168). -/
def lastSequence : Nat := ceilingOf 32

/-- The period timer as a checkpoint start leaves it: at the period, counting in RUN, frozen outside it or before the
first entry to RUN (R169). -/
def State.restartedPeriod (s : State) : Timer :=
  if s.supply.power = .run ∧ s.supply.started then .running (1000 * s.tune.period) else .frozen (1000 * s.tune.period)

/-- The journal left IDLE by a checkpoint that could not be written: another-pending is set, an attached slip becomes
unattached (R171). -/
def Journal.abandon (j : Journal) : Journal :=
  { j with writing := none, another := true, waiting := j.waiting.map (fun _ => false) }

/-- A page is written: its sequence goes first, so until its check word is written it reads as torn (R168). -/
def Journal.beginPage (j : Journal) (w : Writing) : Journal :=
  { j with writing := some w, pages := j.pages.set w.page (.torn w.sequence) }

/-- A checkpoint is abandoned after a failed verification: TORN, and the 10 s retry timer (R171). -/
def State.abandonWithRetry (s : State) : State :=
  (s.withJournal { s.journal.abandon with retry := .running 10000 }).setNotice .torn

/-- A fresh checkpoint starts (R170): the snapshot is staged, the period timer restarts, another-pending is cleared, the
retry timer stops, and a waiting slip is attached. With the sequence exhausted no page is written (R171). -/
def State.startCheckpoint (s : State) : State :=
  let j := { s.journal with
    period := s.restartedPeriod, another := false, retry := .stopped, waiting := s.journal.waiting.map (fun _ => true) }
  if s.journal.newestSequence < lastSequence then
    s.withJournal (j.beginPage ⟨j.target, s.journal.newestSequence + 1, false, s.snapshot⟩)
  else (s.withJournal j).abandonWithRetry

/-- A checkpoint is triggered (R169): it starts at once with the journal IDLE and the part not in HOLD, and otherwise sets
another-pending. -/
def State.trigger (s : State) : State :=
  if s.journal.writing.isNone ∧ s.supply.power ≠ .hold then s.startCheckpoint
  else s.withJournal { s.journal with another := true }

/-- Entry to HOLD at the journal (R171, R165): a checkpoint in WRITING is abandoned with its page torn, the retry timer is
stopped, the period timer frozen. -/
def State.journalEnterHold (s : State) : State :=
  let j := if s.journal.writing.isSome then s.journal.abandon else s.journal
  s.withJournal { j with retry := .stopped, period := j.period.freeze }

/-- The journal after the return from HOLD (R165): one checkpoint if another-pending is set or a slip waits. -/
def State.journalLeaveHold (s : State) : State :=
  if s.journal.writing.isNone ∧ (s.journal.another ∨ s.journal.waiting.isSome) then s.startCheckpoint else s

/-- The period timer at an entry to RUN: it runs on, or starts at the first entry after power-on (R169). -/
def State.journalEnterRun (s : State) : State :=
  let period := match s.journal.period with
    | .stopped => .running (1000 * s.tune.period)
    | t => t.resume
  s.withJournal { s.journal with period := period }

/-- PERIOD_TIMER_EXPIRY (R169): in RUN the timer restarts at the period and a checkpoint is triggered. -/
def periodTimerExpiry (s : State) : State :=
  if s.supply.power = .run ∧ s.journal.period.isRunning then
    (s.withJournal { s.journal with period := .running (1000 * s.tune.period) }).trigger
  else s

/-- RETRY_TIMER_EXPIRY (R171): a fresh checkpoint starts. -/
def retryTimerExpiry (s : State) : State :=
  if s.journal.retry.isRunning ∧ s.journal.writing.isNone ∧ s.supply.power ≠ .hold then s.startCheckpoint else s

end Sys2Proof.Machine
end

