-- ==== Sys2Proof/Machine/Table.lean ====
section
/-! DEFINITION. How increments land (R7 to R11, R131): in the FITTED slot of their class and position, and in the open hire
or the depot bucket, as one event. -/

namespace Sys2Proof.Machine

/-! ### The component table -/

/-- Whether a slot is FITTED with a class and position. -/
def holds (cls : ComponentClass) (position : Nat) : Option Component → Bool
  | some c => decide (c.cls = cls ∧ c.position = position)
  | none => false

/-- The FITTED slot of a class and position (R7). -/
def findSlot (slots : List (Option Component)) (cls : ComponentClass) (position : Nat) : Option Nat :=
  slots.findIdx? (holds cls position)

/-- The record in a slot, if it is FITTED. -/
def State.slotAt (s : State) (i : Nat) : Option Component := (s.slots[i]?).join

/-- A slot's body changed by `f`; a FREE slot stays FREE. -/
def State.modifyBody (s : State) (i : Nat) (f : Body → Body) : State :=
  s.withSlots (s.slots.modify i (fun o => o.map (fun c => { c with body := f c.body })))

/-- The FITTED slots for which a test holds, with their records, in ascending slot number. -/
def State.fittedWhere (s : State) (p : Component → Bool) : List (Nat × Component) :=
  s.slots.zipIdx.filterMap (fun e => match e.1 with
    | some c => if p c then some (e.2, c) else none
    | none => none)

/-! ### Increments with a class of position 1 -/

/-- The increments of the start monitor and the duty meter (R83, R105). -/
inductive Increment where
  /-- A counted start. -/
  | start (cls : StartClass)
  | crankAttempt
  | failedCrank
  | longCrank
  | crankTime
  /-- One metered quantum: its load-band cell, 0..16, and whether it is idle (R93). -/
  | engineQuantum (cell : Nat) (idle : Bool)
  | overspeed
  /-- One quantum of gear time in a cell, 0..15 (R95). -/
  | gearTime (cell : Nat)
  | shift
  | ptoTime
  | ptoEngagement
  /-- Whole joules and the remainder left over (R9). -/
  | slipEnergy (joules remainder : Nat)
  | clutchEngagement
  | hotSlip
deriving DecidableEq, Repr

/-- The class an increment names; its position is 1 (R7). -/
def Increment.cls : Increment → ComponentClass
  | .start _ => .engine
  | .crankAttempt => .starter
  | .failedCrank => .starter
  | .longCrank => .starter
  | .crankTime => .starter
  | .engineQuantum _ _ => .engine
  | .overspeed => .engine
  | .gearTime _ => .gearbox
  | .shift => .gearbox
  | .ptoTime => .pto
  | .ptoEngagement => .pto
  | .slipEnergy _ _ => .clutch
  | .clutchEngagement => .clutch
  | .hotSlip => .clutch

/-- One more start of a class. -/
def StartCounts.bump (c : StartCounts) : StartClass → StartCounts
  | .cold => { c with cold := bumpEvent c.cold }
  | .warm => { c with warm := bumpEvent c.warm }
  | .hot => { c with hot := bumpEvent c.hot }
  | .unobserved => { c with unobserved := bumpEvent c.unobserved }

/-- The ENGINE quantum at a slot: all three parts together, or none when run time is at its ceiling (R8). -/
def EngineBody.quantum (b : EngineBody) (cell : Nat) (idle : Bool) : EngineBody :=
  if b.run < Config.timeCeiling then
    { b with
      run := b.run + 1
      idle := if idle then bumpTime b.idle else b.idle
      cells := b.cells.modify cell bumpTime }
  else b

/-- One quantum of gear time, while the cells sum to less than the ceiling (R95). -/
def GearboxBody.gearTime (b : GearboxBody) (cell : Nat) : GearboxBody :=
  if b.cells.sum < Config.timeCeiling then { b with cells := b.cells.modify cell bumpTime } else b

/-- Slip energy at a slot: the pair together, or neither at the ceiling (R9). -/
def ClutchBody.accrue (b : ClutchBody) (joules remainder : Nat) : ClutchBody :=
  if b.energy < Config.energyCeiling then
    { b with energy := satAdd Config.energyCeiling b.energy joules, remainder := remainder }
  else b

/-- What an increment does to a body of its class (R7 to R9); a body of another class is unchanged. -/
def Increment.onBody : Increment → Body → Body
  | .start cls, .engine b => .engine { b with starts := b.starts.bump cls }
  | .crankAttempt, .starter b => .starter { b with attempts := bumpEvent b.attempts }
  | .failedCrank, .starter b => .starter { b with failed := bumpEvent b.failed }
  | .longCrank, .starter b => .starter { b with long := bumpEvent b.long }
  | .crankTime, .starter b => .starter { b with crankTime := bumpTime b.crankTime }
  | .engineQuantum cell idle, .engine b => .engine (b.quantum cell idle)
  | .overspeed, .engine b => .engine { b with overspeeds := bumpEvent b.overspeeds }
  | .gearTime cell, .gearbox b => .gearbox (b.gearTime cell)
  | .shift, .gearbox b => .gearbox { b with shifts := bumpEvent b.shifts }
  | .ptoTime, .pto b => .pto { b with time := bumpTime b.time }
  | .ptoEngagement, .pto b => .pto { b with engagements := bumpEvent b.engagements }
  | .slipEnergy joules remainder, .clutch b => .clutch (b.accrue joules remainder)
  | .clutchEngagement, .clutch b => .clutch { b with engagements := bumpEvent b.engagements }
  | .hotSlip, .clutch b => .clutch { b with hotSlips := bumpEvent b.hotSlips }
  | _, b => b

/-- What an increment does to the counts of the hire or bucket (R131); those the register does not keep change nothing. -/
def Increment.onCounts (c : Counts) : Increment → Counts
  | .start cls => { c with starts := c.starts.bump cls }
  | .failedCrank => { c with failedCranks := bumpEvent c.failedCranks }
  | .longCrank => { c with longCranks := bumpEvent c.longCranks }
  | .crankTime => { c with crank := bumpTime c.crank }
  | .engineQuantum _ idle => { c with run := bumpTime c.run, idle := if idle then bumpTime c.idle else c.idle }
  | .overspeed => { c with overspeeds := bumpEvent c.overspeeds }
  | .shift => { c with shifts := bumpEvent c.shifts }
  | .ptoTime => { c with pto := bumpTime c.pto }
  | .slipEnergy joules _ => { c with energy := satAdd Config.energyCeiling c.energy joules }
  | .clutchEngagement => { c with engagements := bumpEvent c.engagements }
  | .hotSlip => { c with hotSlips := bumpEvent c.hotSlips }
  | .crankAttempt => c
  | .gearTime _ => c
  | .ptoEngagement => c

/-- The register with the counts of its current record changed (R131). -/
def HireRegister.mapCounts (h : HireRegister) (f : Counts → Counts) : HireRegister :=
  match h.hire with
  | some hire => { h with hire := some { hire with counts := f hire.counts } }
  | none => { h with bucket := { h.bucket with counts := f h.bucket.counts } }

/-- An increment at the table (R7). -/
def State.landInTable (s : State) (inc : Increment) : State :=
  match findSlot s.slots inc.cls 1 with
  | some i => s.modifyBody i inc.onBody
  | none => s

/-- An increment lands at the table and at the register, as one event (R7, R131). -/
def State.land (s : State) (inc : Increment) : State :=
  let t := s.landInTable inc
  t.withHires (t.hires.mapCounts (fun c => inc.onCounts c))

/-! ### Damage -/

/-- A body's residue changed by `f`. -/
def Body.mapResidue (f : Residue → Residue) : Body → Body
  | .gearbox b => .gearbox { b with residue := f b.residue }
  | .axle b => .axle { b with residue := f b.residue }
  | b => b

/-- Damage added to the entry of a slot; a released entry receives nothing (R138). -/
def addDelta (slot amount : Nat) (entries : List DamageEntry) : List DamageEntry :=
  entries.map (fun e =>
    if e.slot = slot ∧ !e.released then { e with delta := satAdd Config.damageCeiling e.delta amount } else e)

/-- The register with the list of its current record changed (R131). -/
def HireRegister.mapEntries (h : HireRegister) (f : List DamageEntry → List DamageEntry) : HireRegister :=
  match h.hire with
  | some hire => { h with hire := some { hire with entries := f hire.entries } }
  | none => { h with bucket := { h.bucket with entries := f h.bucket.entries } }

/-- A damage increment lands in the slot's accumulator and in its delta, each saturating (R10). -/
def State.landDamage (s : State) (slot amount : Nat) : State :=
  let t := s.modifyBody slot
    (Body.mapResidue (fun r => { r with damage := satAdd Config.damageCeiling r.damage amount }))
  t.withHires (t.hires.mapEntries (addDelta slot amount))

/-- Several damage increments of one slot, in order. -/
def State.landDamages (s : State) (slot : Nat) (amounts : List Nat) : State :=
  amounts.foldl (fun t n => t.landDamage slot n) s

end Sys2Proof.Machine
end

