-- ==== Sys2Proof/Machine/Cycle.lean ====
section
/-! DEFINITION. The cycle counter (chapter 7): channel values, the gate, the push and the closure, close-out, and the
hand-on that makes a sample of every FITTED GEARBOX and AXLE slot. -/

namespace Sys2Proof.Machine

/-! ### Grading (R119) -/

/-- The bin of a range: the quotient by the bin width, capped at 15. -/
def binOf (p : CycleTune) (range : Nat) : Nat := min 15 (range / p.width)

/-- The weight of a range. -/
def weightOf (p : CycleTune) (range : Nat) : Nat := p.weights.getD (binOf p range) 0

/-- The range of two points. -/
def span (p q : Int) : Nat := (p - q).natAbs

/-! ### Push and closure (R117, R118) -/

/-- What an operation on a residue leaves and accrues: the stack, the damage increments in their order, and the overflows. -/
structure Accrual where
  stack : List Int
  amounts : List Nat
  drops : Nat
deriving DecidableEq, Repr

/-- The four-point rule on a stack given newest first, repeated while it closes: it answers the stack left and the damage
increments, each twice the weight of its range (R118, R119). The first argument bounds the repetitions. -/
def closeLoops (p : CycleTune) : Nat → List Int → List Int × List Nat
  | n + 1, d :: c :: b :: a :: rest =>
    if span b c ≤ span a b ∧ span b c ≤ span c d then
      let after := closeLoops p n (d :: a :: rest)
      (after.1, 2 * weightOf p (span b c) :: after.2)
    else (d :: c :: b :: a :: rest, [])
  | _, stack => (stack, [])

/-- Closure of a stack held oldest first (R118). -/
def closure (p : CycleTune) (stack : List Int) : List Int × List Nat :=
  let after := closeLoops p stack.length stack.reverse
  (after.1.reverse, after.2)

/-- A push: at 16 points the oldest is first dropped as a half cycle (R117). -/
def pushPoint (p : CycleTune) (stack : List Int) (v : Int) : Accrual :=
  if stack.length < Config.stackLimit then ⟨stack ++ [v], [], 0⟩
  else match stack with
    | p0 :: p1 :: rest => ⟨p1 :: rest ++ [v], [weightOf p (span p0 p1)], 1⟩
    | short => ⟨short ++ [v], [], 0⟩

/-- A push and the closure that follows it (R117, R118). -/
def pushAndClose (p : CycleTune) (stack : List Int) (v : Int) : Accrual :=
  let pushed := pushPoint p stack v
  let closed := closure p pushed.stack
  ⟨closed.1, pushed.amounts ++ closed.2, pushed.drops⟩

/-! ### The gate (R114 to R116) -/

/-- A residue after a sample, with what it accrues. -/
structure Gated where
  stack : List Int
  candidate : Option Candidate
  amounts : List Nat
  drops : Nat
deriving DecidableEq, Repr

/-- Nothing but the candidate moves. -/
def Gated.keep (stack : List Int) (candidate : Option Candidate) : Gated := ⟨stack, candidate, [], 0⟩

/-- The candidate's value is pushed and the sample becomes the new candidate (R115). -/
def Gated.turn (p : CycleTune) (stack : List Int) (c x : Int) (direction : Direction) : Gated :=
  let a := pushAndClose p stack c
  ⟨a.stack, some ⟨x, direction⟩, a.amounts, a.drops⟩

/-- The newest point is replaced by a sample beyond it, and closure is applied (R116). -/
def Gated.extend (p : CycleTune) (stack : List Int) (x : Int) : Gated :=
  let closed := closure p (stack.dropLast ++ [x])
  ⟨closed.1, none, closed.2, 0⟩

/-- The gate on one sample `x`, by the stack (oldest first) and the candidate (R114, R115, R116). -/
def gate (p : CycleTune) (stack : List Int) (candidate : Option Candidate) (x : Int) : Gated :=
  let g : Int := p.gate
  match stack.reverse, candidate with
  | [], _ => .keep [x] none
  | [l], none =>
    if l + g ≤ x then .keep stack (some ⟨x, .rising⟩)
    else if x ≤ l - g then .keep stack (some ⟨x, .falling⟩)
    else .keep stack none
  | l :: o :: _, none =>
    if o < l then
      if l < x then .extend p stack x
      else if x ≤ l - g then .keep stack (some ⟨x, .falling⟩)
      else .keep stack none
    else
      if x < l then .extend p stack x
      else if l + g ≤ x then .keep stack (some ⟨x, .rising⟩)
      else .keep stack none
  | _ :: _, some ⟨c, .rising⟩ =>
    if c < x then .keep stack (some ⟨x, .rising⟩)
    else if x ≤ c - g then .turn p stack c x .falling
    else .keep stack (some ⟨c, .rising⟩)
  | _ :: _, some ⟨c, .falling⟩ =>
    if x < c then .keep stack (some ⟨x, .falling⟩)
    else if c + g ≤ x then .turn p stack c x .rising
    else .keep stack (some ⟨c, .falling⟩)

/-- The weights of the ranges of adjacent points, oldest first (R124 step 2). -/
def halfCycles (p : CycleTune) : List Int → List Nat
  | a :: b :: rest => weightOf p (span a b) :: halfCycles p (b :: rest)
  | _ => []

/-- Close-out of a residue: what it accrues; the stack and the candidate end empty and absent (R124). -/
def closeOut (p : CycleTune) (stack : List Int) (candidate : Option Candidate) : Accrual :=
  let pushed : Accrual := match candidate with
    | some c => pushAndClose p stack c.value
    | none => ⟨stack, [], 0⟩
  ⟨[], pushed.amounts ++ halfCycles p pushed.stack, pushed.drops⟩

/-! ### At a slot -/

/-- The cycle parameters of a class (R109). -/
def TuneSet.cycleOf (t : TuneSet) (cls : ComponentClass) : CycleTune :=
  if cls = .axle then t.axle else t.gearbox.cycle

/-- A slot's residue set to a stack and candidate, its overflows counted with the RESIDUE notice, and its damage
increments landed (R10, R117, R119, R120). -/
def State.settle (s : State) (slot : Nat) (g : Gated) : State :=
  let t := s.modifyBody slot (Body.mapResidue (fun r =>
    { r with
      stack := g.stack
      candidate := g.candidate
      drops := satAdd Config.eventCeiling r.drops g.drops }))
  let u := if 0 < g.drops then t.setNotice .residue else t
  u.landDamages slot g.amounts

/-- Close-out of one slot under stated parameters (R124). -/
def State.closeOutSlot (s : State) (slot : Nat) (p : CycleTune) : State :=
  match (s.slotAt slot).bind (fun c => c.body.residue) with
  | some r =>
    let a := closeOut p r.stack r.candidate
    s.settle slot ⟨a.stack, none, a.amounts, a.drops⟩
  | none => s

/-- Close-out of every FITTED slot of a class in ascending slot number (R126). -/
def State.closeOutClass (s : State) (cls : ComponentClass) (p : CycleTune) : State :=
  (s.fittedWhere (fun c => decide (c.cls = cls))).foldl (fun t e => t.closeOutSlot e.1 p) s

/-- One more clamped sample of an AXLE (R113). -/
def Body.bumpClamped : Body → Body
  | .axle b => .axle { b with clampedSamples := bumpEvent b.clampedSamples }
  | b => b

/-- A sample is taken whole at a slot: the clamp's count, the gate, any push with its overflow and closures (R113, R121). -/
def State.takeSample (s : State) (x : SlotSample) : State :=
  match s.slotAt x.slot with
  | some c =>
    match c.body.residue with
    | some r =>
      let t := if x.clamped then s.modifyBody x.slot Body.bumpClamped else s
      t.settle x.slot (gate (s.tune.cycleOf c.cls) r.stack r.candidate x.value)
    | none => s
  | none => s

/-- The waiting samples for which a test holds are taken at their slots, in the order they were handed on, in RUN alone: in DOZE and
HOLD no increment arrives but those of a close-out (R6), and none waits there, for all are taken before the part leaves RUN
(notes/assumptions/33.md). So what was fed before a TUNE or an UNFIT is gated before it (R109, R126, R127); no other slip takes them
(notes/assumptions/7.md). -/
def State.takeWaiting (s : State) (p : SlotSample → Bool) : State :=
  if s.supply.power = .run then
    (s.samples.filter p).foldl State.takeSample (s.withSamples (s.samples.filter (fun x => !p x)))
  else s

/-- Every sample that waits is taken at its slot, each an event of its own (R121): what was fed in RUN is counted in RUN (R110), so that
a TUNE or an UNFIT in the DOZE or HOLD that follows finds it in the residue (R127, notes/assumptions/33.md). -/
def State.takeAllWaiting (s : State) : State := s.takeWaiting (fun _ => true)

/-- A sample waits for a slot FITTED with a class. -/
def State.waitsAt (s : State) (cls : ComponentClass) (x : SlotSample) : Bool :=
  (s.slotAt x.slot).any (fun c => decide (c.cls = cls))

/-! ### Channel values (R111, R112) -/

/-- A non-neutral gear: F1..F12, REV1 or REV2 (R21). -/
def nonNeutral (v : Int) : Bool := decide ((1 ≤ v ∧ v ≤ 12) ∨ v = -1 ∨ v = -2)

/-- GEAR holds a valid non-neutral gear (R21). -/
def Board.inGear (b : Board) : Bool := b.gear.known && nonNeutral b.gear.value

/-- CLUTCH is known and DEPRESSED (R111). -/
def Board.clutchOpen (b : Board) : Bool := b.clutch.known && decide (b.clutch.value = 1)

/-- The tuned ratio of a non-neutral gear in q6 (R33). -/
def GearTune.ratioOf (t : GearTune) (gear : Int) : Nat :=
  if 0 < gear then t.forwardRatios.getD (gear.toNat - 1) 0 else t.reverseRatios.getD ((-gear).toNat - 1) 0

/-- The GEARBOX channel value (R111). -/
def State.gearboxValue (s : State) : Int :=
  if !s.board.clutchOpen && s.board.inGear then s.board.engineTorque.value else 0

/-- The AXLE channel value before its clamp, for `n` FITTED AXLE slots (R112). -/
def State.axleShare (s : State) (n : Nat) : Int :=
  if !s.board.clutchOpen && s.board.inGear then
    let gear := s.board.gear.value
    let rounded := roundHalfAway (s.board.engineTorque.value * s.tune.gearbox.ratioOf gear) (512 * n)
    if gear < 0 then -rounded else rounded
  else 0

/-- The samples of one hand-on: one for each FITTED GEARBOX and AXLE slot (R110). -/
def State.newSamples (s : State) : List SlotSample :=
  let n := (s.fittedWhere (fun c => decide (c.cls = .axle))).length
  let share := s.axleShare n
  let axle := clampInt (-2047) 2047 share
  (s.fittedWhere (fun c => c.cls.hasResidue)).map (fun e =>
    if e.2.cls = .axle then ⟨e.1, axle, decide (axle ≠ share)⟩ else ⟨e.1, s.gearboxValue, false⟩)

/-- A hand-on to the cycle counter (R110): in RUN, which the power state is from power-on (notes/assumptions/24.md), with
ENGINE_TORQUE FRESH, a sample is handed to every FITTED GEARBOX and AXLE slot, with its value as the board stands now
(notes/assumptions/19.md), to be taken at each as an event of its own (R121). -/
def State.cycleHandOn (s : State) : State :=
  if s.supply.power = .run ∧ s.board.engineTorque.age = .fresh then s.withSamples (s.samples ++ s.newSamples) else s

/-- SAMPLE_AT_SLOT (R121): the oldest sample handed to the slot is taken there. Outside RUN counting is suspended (R6, R110), and no
sample waits (notes/assumptions/33.md). -/
def sampleAtSlot (slot : Fin 8) (s : State) : State :=
  match s.samples.find? (fun x => decide (x.slot = slot.val)) with
  | some x =>
    if s.supply.power = .run then (s.withSamples (s.samples.erase x)).takeSample x else s
  | none => s

/-! ### Commands -/

/-- SAMPLE_AT_SLOT (R121). -/
def execSampleAtSlot (slot : Fin 8) (s : State) : Host.Outcome State Fault Refusal := s.act (sampleAtSlot slot)

end Sys2Proof.Machine
end

