-- ==== Sys2Proof/Machine/Monitor.lean ====
section
/-! DEFINITION. The start monitor (chapter 5), with what its transitions hand to depot control (R157), the supply monitor
(R164, R166), the duty meter (R104, R106) and the journal (R169); and the commands that are its timers. -/

namespace Sys2Proof.Machine

/-! ### What a transition hands to other blocks -/

/-- DEPOT is left automatically (R157); outside DEPOT nothing happens. -/
def State.depotAutoLeave (s : State) : State :=
  if s.depot.state = .depot then
    ((s.withDepot { s.depot with state := .normal, timer := .stopped }).publishDepot.setNotice .depot).trigger
  else s

/-- The low-supply warning is given (R164). -/
def State.warn (s : State) : State :=
  ((s.withSupply { s.supply with filter := .stopped, armed := false }).setNotice .lowSupply).trigger

/-- A leaving of CRANKING at the supply monitor (R164): a filter at 400 ms or more ends at once as an expiry. The filter's
time is kept to the quantum, so at 400 the comparison is a free value (notes/assumptions/3.md). -/
def State.filterAfterCrank (s : State) : State :=
  match s.supply.filter with
  | .running ms =>
    if 400 < ms then s.warn
    else if ms = 400 then
      let d := s.draw
      if d.1 then d.2.warn else d.2
    else s
  | _ => s

/-- The engagement window is closed and judged (R104). -/
def State.closeWindow (s : State) : State :=
  match s.duty.window with
  | some w =>
    let t := s.withDuty { s.duty with window := none }
    if 1000 * s.tune.clutch.hotSlip < w.sum then (t.land .hotSlip).setNotice .abuse else t
  | none => s

/-- The duty meter when the start monitor leaves RUNNING (R97, R98, R104, R106). -/
def State.dutyLeavesRunning (s : State) : State :=
  let t := s.closeWindow
  t.withDuty { t.duty with ptoAbove := false, overspeedCount := none }

/-! ### Readings of ENGINE_SPEED (R73) -/

/-- ENGINE_SPEED is at or above the run threshold. -/
def State.atRun (s : State) : Bool :=
  s.board.engineSpeed.known && decide ((s.tune.start.run : Int) ≤ s.board.engineSpeed.value)

/-- ENGINE_SPEED is below the stop threshold. -/
def State.belowStop (s : State) : Bool :=
  s.board.engineSpeed.known && decide (s.board.engineSpeed.value < (s.tune.start.stop : Int))

/-! ### Counting a start (R82, R83) -/

/-- The class of a start counted now (R82): HOT by the interval, else COLD by the coolant, else WARM. -/
def State.classifyStart (s : State) : StartClass :=
  let hot := match s.monitor.lastStop with
    | some t => decide (s.now - t < 10 * s.tune.start.hotWindow)
    | none => false
  if hot then .hot
  else if s.board.coolantTemp.known && decide (s.board.coolantTemp.value < s.tune.start.coldLimit) then .cold
  else .warm

/-- A start is counted and classified. -/
def State.countStart (s : State) : State := s.land (.start s.classifyStart)

/-! ### Changes of the start state -/

/-- A leaving of the present state, as its rule hands it on: timers of the state are stopped (R71, R78, R79, R81), and the
leaving of OFF, CRANKING and RUNNING is handed to the supply monitor (R164, R166) and the duty meter (R106). -/
def State.leaveStart (s : State) : State :=
  match s.monitor.state with
  | .off => s.withSupply { s.supply with doze := .stopped }
  | .armed => s
  | .cranking => (s.withMonitor { s.monitor with crankTimer := .stopped }).filterAfterCrank
  | .catching => s.withMonitor { s.monitor with catchTimer := .stopped }
  | .running => (s.withMonitor { s.monitor with stopTimer := .stopped }).dutyLeavesRunning

/-- The start state is set and shown (R88). -/
def State.setStart (s : State) (st : StartState) : State :=
  (s.withMonitor { s.monitor with state := st }).publishStart

/-- An entry to OFF at the supply monitor and the journal (R81, R166): the doze timer starts in RUN, and a checkpoint is
triggered. -/
def State.offEntered (s : State) : State :=
  let t := if s.supply.power = .run then s.withSupply { s.supply with doze := .running 30000 } else s
  t.trigger

/-- A change of the start state. -/
def State.moveStart (s : State) (st : StartState) : State :=
  let t := s.leaveStart.setStart st
  if st = .off then t.offEntered else t

/-- A stop is confirmed (R81): its time is taken, and the monitor enters ARMED or OFF by the debounced IGN level. -/
def State.confirmStop (s : State) : State :=
  (s.withMonitor { s.monitor with lastStop := some s.now }).moveStart (if s.ignOn then .armed else .off)

/-- What RUNNING does with ENGINE_SPEED as it stands (R80). -/
def State.reactRunning (s : State) : State :=
  if !s.board.engineSpeed.known then
    if s.ignOn then s.withMonitor { s.monitor with stopTimer := .stopped } else s.confirmStop
  else if s.belowStop then
    if s.monitor.stopTimer.isRunning then s else s.withMonitor { s.monitor with stopTimer := .running 1000 }
  else s.withMonitor { s.monitor with stopTimer := .stopped }

/-- RUNNING is entered, and acts on the speed as it stands (R73). -/
def State.enterRunning (s : State) : State := (s.moveStart .running).reactRunning

/-- What OFF and ARMED do with ENGINE_SPEED as it stands (R76): at the run threshold RUNNING is entered without a crank,
with an UNOBSERVED start unless the first-reading flag is set, and DEPOT is left (R157). The start lands before the checkpoint that
the leave triggers takes its snapshot, where R7 allows either order: the model's choice (DESIGN CHOICE, notes/assumptions/30.md). -/
def State.reactIdle (s : State) : State :=
  if s.atRun then
    let t := if s.monitor.firstReading then s else s.land (.start .unobserved)
    (t.moveStart .running).depotAutoLeave.reactRunning
  else s

/-- ARMED or OFF is entered, and acts on the speed as it stands (R73). -/
def State.enterIdle (s : State) (st : StartState) : State := (s.moveStart st).reactIdle

/-- A start is counted from CRANKING or CATCHING, and RUNNING is entered (R78, R79, R82). The start is counted before the leaving of
CRANKING is handed to the supply monitor, so a low-supply checkpoint given there (R164) holds it: the spec gives no order, and this one
is the model's choice (DESIGN CHOICE, notes/assumptions/31.md). -/
def State.startRunning (s : State) : State := s.countStart.enterRunning

/-- CATCHING is entered with the catch timer at the tuned catch time, and acts on the speed as it stands (R78, R73). -/
def State.enterCatching (s : State) : State :=
  let t := s.moveStart .catching
  let u := t.withMonitor { t.monitor with catchTimer := .running t.tune.start.catchTime }
  if u.atRun then u.startRunning else u

/-- CRANKING is entered with evidence of a source (R77). The attempt lands before the checkpoint that a leave of DEPOT triggers takes
its snapshot (R157): the model's choice (notes/assumptions/30.md). -/
def State.enterCranking (s : State) (source : CrankSource) : State :=
  let t := (s.land .crankAttempt).moveStart .cranking
  (t.withMonitor { t.monitor with
    crankTimer := .running 0
    longMark := false
    caught := t.atRun
    firstReading := false
    evidence := some source }).depotAutoLeave

/-- A failed crank is counted (R83). -/
def State.failCrank (s : State) : State := s.land .failedCrank

/-- What the present state does with ENGINE_SPEED as it stands (R73, R76, R78, R79, R80). -/
def State.react (s : State) : State :=
  match s.monitor.state with
  | .off => s.reactIdle
  | .armed => s.reactIdle
  | .cranking => if s.atRun then s.withMonitor { s.monitor with caught := true } else s
  | .catching => if s.atRun then s.startRunning else s
  | .running => s.reactRunning

/-! ### Events at the monitor; from the entry to HOLD until its exit it takes none (R84) -/

/-- An event at the monitor, taken outside HOLD alone (R84). -/
def State.atMonitor (s : State) (f : State → State) : State := if s.supply.power = .hold then s else f s

/-- A hand-on of ENGINE_SPEED (R73): the speed is judged, and the first FRESH reading clears the first-reading flag (R86). -/
def State.speedHandOn (s : State) : State :=
  s.atMonitor (fun s =>
    let t := s.react
    if t.board.engineSpeed.age = .fresh then t.withMonitor { t.monitor with firstReading := false } else t)

/-- An IGN rise at the monitor (R76), and an active starting level of IGN (R86); in a state other than OFF neither does anything,
RUNNING before the starting level among them (notes/assumptions/27.md). -/
def State.monitorIgnRise (s : State) : State :=
  s.atMonitor (fun s => if s.monitor.state = .off then s.enterIdle .armed else s)

/-- An IGN fall in the state it finds (R76, R78, R79, R80). A failed crank is counted before CRANKING is left, so the checkpoint of a
low-supply warning given at that leaving (R164, notes/assumptions/31.md) or of the entry to OFF (R81, notes/assumptions/30.md) holds it:
the model's choice. -/
def State.ignFallNow (s : State) : State :=
  match s.monitor.state with
  | .off => s
  | .armed => s.enterIdle .off
  | .cranking => s.failCrank.enterIdle .off
  | .catching => s.failCrank.enterIdle .off
  | .running => if s.board.engineSpeed.known then s else s.confirmStop

/-- An IGN fall at the monitor. -/
def State.monitorIgnFall (s : State) : State := s.atMonitor State.ignFallNow

/-- Crank evidence of a source begins (R74, R75): a new attempt from ARMED, and from CATCHING with a failed crank (R79); in
any other state it is not recorded. -/
def State.evidenceBegins (s : State) (source : CrankSource) : State :=
  match s.monitor.state with
  | .armed => s.enterCranking source
  | .catching => s.failCrank.enterCranking source
  | _ => s

/-- Crank evidence that began under a source ends (R74, R75, R78). -/
def State.evidenceEnds (s : State) (source : CrankSource) : State :=
  if s.monitor.evidence = some source then
    let t := s.withMonitor { s.monitor with evidence := none }
    if t.monitor.state = .cranking then
      if t.monitor.caught then t.startRunning else t.enterCatching
    else t
  else s

/-- A CRANK rise at the monitor (R74). -/
def State.monitorCrankRise (s : State) : State :=
  s.atMonitor (fun s => if s.tune.supply.crankSource = .line then s.evidenceBegins .line else s)

/-- A CRANK fall at the monitor (R74). -/
def State.monitorCrankFall (s : State) : State := s.atMonitor (fun s => s.evidenceEnds .line)

/-- A dip report at the monitor (R75). -/
def State.monitorDip (s : State) : State :=
  s.atMonitor (fun s => if s.tune.supply.crankSource = .dip ∧ !s.atRun then s.evidenceBegins .dip else s)

/-- A recovery report at the monitor (R75). -/
def State.monitorRecovery (s : State) : State := s.atMonitor (fun s => s.evidenceEnds .dip)

/-! ### HOLD (R84, R85) -/

/-- Entry to HOLD at the monitor (R84). Evidence that an IGN fall in CRANKING left standing (notes/assumptions/21.md) stands through a
HOLD taken in another state, and its end in HOLD is not taken: the exit finds it present, where R85 has a recovery report find none. The
model's choice, which nothing but the field shows (DESIGN CHOICE, notes/assumptions/34.md). -/
def State.monitorEnterHold (s : State) : State :=
  match s.monitor.state with
  | .cranking =>
    (s.withMonitor { s.monitor with
      crankTimer := .stopped, evidence := none, heldCrank := true, catchTimer := .stopped }).setStart .catching
  | .catching => s.withMonitor { s.monitor with catchTimer := s.monitor.catchTimer.freeze }
  | .running => s.withMonitor { s.monitor with stopTimer := s.monitor.stopTimer.freeze }
  | .off => s
  | .armed => s

/-- R85 step 1: a crank cut by HOLD gets its catch time, or is a start if it had caught. -/
def State.judgeHeldCrank (s : State) : State :=
  if s.monitor.heldCrank then
    let t := s.withMonitor { s.monitor with heldCrank := false, catchTimer := .running s.tune.start.catchTime }
    if t.monitor.caught then t.startRunning else t
  else s

/-- R85 step 2: frozen timers resume. -/
def State.resumeMonitor (s : State) : State :=
  s.withMonitor { s.monitor with
    catchTimer := s.monitor.catchTimer.resume, stopTimer := s.monitor.stopTimer.resume }

/-- R85 step 3: the debounced IGN level is read. -/
def State.rereadIgn (s : State) : State :=
  if s.ignOn then (if s.monitor.state = .off then s.enterIdle .armed else s) else s.ignFallNow

/-- Exit from HOLD at the monitor: the four steps of R85 in order. Step 4 is no hand-on, and leaves the first-reading flag as it
is (notes/assumptions/25.md). -/
def State.monitorLeaveHold (s : State) : State := s.judgeHeldCrank.resumeMonitor.rereadIgn.react

/-! ### The monitor's timers -/

/-- LONG_CRANK (R78): at most once an attempt. -/
def longCrank (s : State) : State :=
  if s.monitor.state = .cranking ∧ !s.monitor.longMark ∧ s.monitor.crankTimer.isRunning then
    let t := s.land .longCrank
    (t.withMonitor { t.monitor with longMark := true }).setNotice .abuse
  else s

/-- CATCH_TIMER_EXPIRY (R79). -/
def catchTimerExpiry (s : State) : State :=
  if s.monitor.state = .catching ∧ s.monitor.catchTimer.isRunning then s.failCrank.enterIdle .armed else s

/-- STOP_TIMER_EXPIRY (R80, R81). -/
def stopTimerExpiry (s : State) : State :=
  if s.monitor.state = .running ∧ s.monitor.stopTimer.isRunning then s.confirmStop.reactIdle else s

/-! ### Commands -/

/-- LONG_CRANK (R78). -/
def execLongCrank (s : State) : Host.Outcome State Fault Refusal := s.act longCrank

/-- CATCH_TIMER_EXPIRY (R79). -/
def execCatchTimerExpiry (s : State) : Host.Outcome State Fault Refusal := s.act catchTimerExpiry

/-- STOP_TIMER_EXPIRY (R80, R81). -/
def execStopTimerExpiry (s : State) : Host.Outcome State Fault Refusal := s.act stopTimerExpiry

end Sys2Proof.Machine
end

