-- ==== Sys2Proof/Machine/Board.lean ====
section
/-! DEFINITION. The quantity board (chapter 2): records and their ageing, the choice of source, the derived gear, and the
hand-ons of R34. -/

namespace Sys2Proof.Machine

/-! ### Records -/

/-- A record is replaced and its mirror rewritten (R35). -/
def State.putRecord (s : State) (q : Quantity) (r : QRecord) : State :=
  (s.withBoard (s.board.set q r)).publishRecord q

/-- The record a sample leaves (R22). -/
def State.freshRecord (s : State) (v : Int) (source : Source) : QRecord :=
  ⟨v, .fresh, source, some s.now, .running 0⟩

/-- A sample is applied to a record (R22), before any hand-on. -/
def State.refresh (s : State) (q : Quantity) (v : Int) (source : Source) : State :=
  s.putRecord q (s.freshRecord v source)

/-- The range a value is clamped to before it is stored (R20, R66). -/
def quantityRange : Quantity → Int × Int
  | .engineSpeed => (0, 8000)
  | .inputSpeed => (0, 8000)
  | .outputSpeed => (0, 8000)
  | .ptoSpeed => (0, 8000)
  | .engineTorque => (-250, 250)
  | .coolantTemp => (-40, 210)
  | .clutch => (0, 1)
  | .gear => (-2, 12)

/-- The number of SLIPPING (R21). -/
def slipping : Int := 13

/-- A GEAR value as it is stored: SLIPPING for a gear beyond the tuned counts (R21). -/
def GearTune.store (t : GearTune) (v : Int) : Int :=
  if (t.forward : Int) < v ∨ (t.reverse : Int) < -v then slipping else v

/-- A change of CLUTCH or GEAR, as R34 hands it on: of value, or an entry to or exit from UNKNOWN. -/
def QRecord.changed (old new : QRecord) : Bool :=
  decide (old.value ≠ new.value) || (old.known != new.known)

/-! ### GEAR -/

/-- A GEAR hand-on at the duty meter (R96), taken in RUN, which the power state is from power-on (notes/assumptions/24.md). -/
def State.dutyGear (s : State) : State :=
  if s.supply.power = .run ∧ s.board.inGear then
    let v := s.board.gear.value
    match s.duty.lastGear with
    | none => s.withDuty { s.duty with lastGear := some v }
    | some old =>
      if old = v then s
      else
        let t := if s.monitor.state = .running then s.land .shift else s
        t.withDuty { t.duty with lastGear := some v }
  else s

/-- A GEAR change is handed to the cycle counter and the duty meter (R34). -/
def State.gearHandOn (s : State) : State := s.cycleHandOn.dutyGear

/-- A record of GEAR is put, and handed on when it is a change (R34). -/
def State.putGear (s : State) (r : QRecord) : State :=
  let old := s.board.gear
  let t := s.putRecord .gear r
  if old.changed r then t.gearHandOn else t

/-- The ratio list of R31 step 1, each with its gear. -/
def State.ratioList (s : State) : List (Int × Nat) :=
  let t := s.tune.gearbox
  if s.tune.start.reverseWired && s.lines.reverse.level then
    (t.reverseRatios.take t.reverse).mapIdx (fun i q => (-(i : Int) - 1, q))
  else (t.forwardRatios.take t.forward).mapIdx (fun i q => ((i : Int) + 1, q))

/-- The quotient `r` matches a ratio `q` within the tolerance in percent (R31 step 2). -/
def ratioMatches (tolerance r q : Nat) : Bool :=
  decide (((r : Int) - (q : Int)).natAbs * 100 ≤ tolerance * q)

/-- The derived value for a quotient `r` (R31). -/
def State.derivedGear (s : State) (r : Nat) : Int :=
  match s.ratioList.find? (fun e => ratioMatches s.tune.gearbox.tolerance r e.2) with
  | some e => e.1
  | none => if s.board.clutchOpen then 0 else slipping

/-- The derived gear is evaluated (R30): with both shaft speeds FRESH and the output at 50 rpm or more, the result is applied
to GEAR. -/
def State.evaluateGear (s : State) : State :=
  let input := s.board.inputSpeed
  let output := s.board.outputSpeed
  if input.age = .fresh ∧ output.age = .fresh ∧ 50 ≤ output.value then
    s.putGear (s.freshRecord (s.derivedGear ((input.value.toNat * 64) / output.value.toNat)) .derived)
  else s

/-! ### CLUTCH and the other quantities -/

/-- A CLUTCH change is handed to the cycle counter, and then the gear is evaluated (R34). -/
def State.clutchHandOn (s : State) : State := s.cycleHandOn.evaluateGear

/-- A record of CLUTCH is put, and handed on when it is a change (R34). -/
def State.putClutch (s : State) (r : QRecord) : State :=
  let old := s.board.clutch
  let t := s.putRecord .clutch r
  if old.changed r then t.clutchHandOn else t

/-- A sample is applied to a quantity, with the hand-ons it causes (R22, R34). -/
def State.applySample (s : State) (q : Quantity) (v : Int) (source : Source) : State :=
  match q with
  | .engineSpeed => (s.refresh q v source).speedHandOn
  | .inputSpeed => (s.refresh q v source).evaluateGear
  | .outputSpeed => (s.refresh q v source).evaluateGear
  | .ptoSpeed => s.refresh q v source
  | .engineTorque => (s.refresh q v source).cycleHandOn
  | .coolantTemp => s.refresh q v source
  | .clutch => s.putClutch (s.freshRecord v source)
  | .gear => s.putGear (s.freshRecord v source)

/-- The debounced CLUTCH level is presented to the board, while CLUTCH is wired (R29). -/
def State.presentClutch (s : State) : State :=
  if s.tune.start.clutchWired then s.applySample .clutch (if s.lines.clutch.level then 1 else 0) .line else s

/-! ### Frame samples -/

/-- The quantity of a route target. -/
def targetQuantity : RouteTarget → Quantity
  | .engineSpeed => .engineSpeed
  | .outputSpeed => .outputSpeed
  | .engineTorque => .engineTorque
  | .coolantTemp => .coolantTemp
  | .clutch => .clutch
  | .gear => .gear

/-- A frame sample enters the frame shadow of its quantity, where the board keeps one (R27). -/
def State.castShadow (s : State) (target : RouteTarget) (v : Int) : State :=
  let shadow : Shadow := ⟨v, s.now, 0⟩
  match target with
  | .engineSpeed => s.withBoard { s.board with shadowEngine := some shadow }
  | .outputSpeed => s.withBoard { s.board with shadowOutput := some shadow }
  | .gear => s.withBoard { s.board with shadowGear := some shadow }
  | .engineTorque => s
  | .coolantTemp => s
  | .clutch => s

/-- A channel leaves its quantity to frames: it is FAULTED, or tuned with teeth 0 (R26). -/
def State.channelYields (s : State) (ch : Channel) : Bool :=
  decide (s.tune.pulse.teeth ch = 0) || decide ((s.pulse.get ch).health = .faulted)

/-- Whether the board applies a frame sample for a target outside DOZE (R26, R28, R29, R32). -/
def State.frameFeeds (s : State) (target : RouteTarget) : Bool :=
  match target with
  | .engineSpeed => s.channelYields .p0
  | .outputSpeed => s.channelYields .p2
  | .engineTorque => true
  | .coolantTemp => true
  | .clutch => !s.tune.start.clutchWired
  | .gear => !(decide (s.board.gear.age = .fresh) && decide (s.board.gear.source = .derived))

/-- A clamped frame sample reaches the board (R24, R67): the answer says whether it was applied. In DOZE it is not, and casts
no shadow (R23). -/
def State.deliverFrame (s : State) (target : RouteTarget) (v : Int) : Bool × State :=
  if s.supply.power = .doze then (false, s)
  else
    let stored := if target = .gear then s.tune.gearbox.store v else v
    let t := s.castShadow target stored
    if t.frameFeeds target then (true, t.applySample (targetQuantity target) stored .frame) else (false, t)

/-! ### Ageing (R22) -/

/-- FRESH_TIMER_EXPIRY (R22): FRESH becomes HELD; for ENGINE_SPEED the change of state is handed on (R34). -/
def freshTimerExpiry (q : Quantity) (s : State) : State :=
  let r := s.board.get q
  if r.age = .fresh then
    let t := s.putRecord q { r with age := .held }
    if q = .engineSpeed then t.speedHandOn else t
  else s

/-- A record enters UNKNOWN, with the QUANTITY notice and the hand-ons that causes (R22, R34, R37). -/
def State.loseQuantity (s : State) (q : Quantity) : State :=
  match q with
  | .engineSpeed => ((s.putRecord q .unknown).setNotice .quantity).speedHandOn
  | .clutch => ((s.putRecord q .unknown).setNotice .quantity).clutchHandOn
  | .gear => ((s.putRecord q .unknown).setNotice .quantity).gearHandOn
  | q => (s.putRecord q .unknown).setNotice .quantity

/-- HELD_TIMER_EXPIRY (R22): HELD becomes UNKNOWN. -/
def heldTimerExpiry (q : Quantity) (s : State) : State :=
  if (s.board.get q).age = .held then s.loseQuantity q else s

/-- The mirrors of some records are rewritten (R35). -/
def State.publishRecords (s : State) (changed : List Quantity) : State := changed.foldl State.publishRecord s

/-- Entry to DOZE at the board (R23): every record that is not UNKNOWN enters UNKNOWN at that moment, and its mirror alone is
rewritten (R35); the shadows are emptied, QUANTITY is set if a record did so, and a lost ENGINE_SPEED is handed on. -/
def State.boardEnterDoze (s : State) : State :=
  let lost := allQuantities.filter (fun q => (s.board.get q).known)
  let t := (s.withBoard .powerOn).publishRecords lost
  let u := if lost.isEmpty then t else t.setNotice .quantity
  if s.board.engineSpeed.known then u.speedHandOn else u

/-- The SLIPPING substitution at an accepted TUNE of GEARBOX (R21): a known GEAR beyond the tuned counts becomes SLIPPING,
its state, source and sampled-at kept, and the change is handed on. -/
def State.substituteSlipping (s : State) : State :=
  let r := s.board.gear
  if r.known && nonNeutral r.value && decide (s.tune.gearbox.store r.value ≠ r.value) then
    s.putGear { r with value := slipping }
  else s

/-! ### Commands -/

/-- FRESH_TIMER_EXPIRY (R22). -/
def execFreshTimerExpiry (q : Quantity) (s : State) : Host.Outcome State Fault Refusal := s.act (freshTimerExpiry q)

/-- HELD_TIMER_EXPIRY (R22, R37). -/
def execHeldTimerExpiry (q : Quantity) (s : State) : Host.Outcome State Fault Refusal := s.act (heldTimerExpiry q)

end Sys2Proof.Machine
end

