-- ==== Sys2Proof/Machine/Pulse.lean ====
section
/-! DEFINITION. Pulse windows, plausibility and the fault counter, and the sensor supply (chapter 3). -/

namespace Sys2Proof.Machine

/-! ### The sensor supply (R51 to R55) -/

/-- The sensor supply changes; leaving ON sets the supply-left-ON mark of the windows in progress (R46). -/
def State.setSensor (s : State) (v : Sensor) : State :=
  let t := s.withSensor v
  if s.sensor.state = .on ∧ v.state ≠ .on ∧ s.pulse.windows then
    t.withPulse (s.pulse.each (fun c => { c with mark := true }))
  else t

/-- Whether the 5 V output is energised: in ON and TRIAL (R51). -/
def State.sensorOutput (s : State) : Bool :=
  match s.sensor.state with
  | .on => true
  | .trial => true
  | .off => false
  | .shorted => false
  | .lockedOff => false

/-- Entry to DOZE or HOLD at the sensor supply (R51). -/
def State.sensorRest (s : State) : State :=
  if s.sensor.state = .lockedOff then s
  else s.setSensor ⟨.off, s.sensor.retry, .stopped, .stopped⟩

/-- Entry to RUN at the sensor supply (R51). -/
def State.sensorEnterRun (s : State) : State :=
  if s.sensor.state = .off then
    if s.sensor.retry = 0 then s.setSensor ⟨.on, 0, .stopped, .stopped⟩
    else s.setSensor ⟨.trial, s.sensor.retry, .stopped, .running 50⟩
  else s

/-- An IGN rise at the sensor supply (R54). -/
def State.sensorIgnRise (s : State) : State :=
  if s.sensor.state = .lockedOff then
    if s.supply.power = .run then s.setSensor ⟨.trial, 0, .stopped, .running 50⟩
    else s.setSensor ⟨.off, 0, .stopped, .stopped⟩
  else s

/-- Every channel's counter at the fault limit and every channel FAULTED, with CHANNEL if any was GOOD (R52 step 4). -/
def State.faultAll (s : State) : State :=
  let anyGood := [s.pulse.p0, s.pulse.p1, s.pulse.p2, s.pulse.p3].any (fun c => decide (c.health = .good))
  let t := s.withPulse (s.pulse.each (fun c => { c with counter := s.tune.pulse.limit, health := .faulted }))
  if anyGood then t.setNotice .channel else t

/-- SENSOR_SUPPLY_SHORT (R52 in ON, R53 in TRIAL; the output is off in every other state and no short can be detected). -/
def sensorSupplyShort (s : State) : State :=
  match s.sensor.state with
  | .on => (s.setSensor ⟨.shorted, s.sensor.retry, .running 2000, .stopped⟩).faultAll.setNotice .supply
  | .trial =>
    if s.sensor.retry + 1 = 5 then (s.setSensor ⟨.lockedOff, 5, .stopped, .stopped⟩).setNotice .supply
    else s.setSensor ⟨.shorted, s.sensor.retry + 1, .running 2000, .stopped⟩
  | _ => s

/-- OFF_TIMER_EXPIRY (R53). -/
def offTimerExpiry (s : State) : State :=
  if s.sensor.state = .shorted ∧ s.sensor.offTimer.isRunning then
    s.setSensor ⟨.trial, s.sensor.retry, .stopped, .running 50⟩
  else s

/-- TRIAL_TIMER_EXPIRY (R53). -/
def trialTimerExpiry (s : State) : State :=
  if s.sensor.state = .trial ∧ s.sensor.trialTimer.isRunning then s.setSensor ⟨.on, 0, .stopped, .stopped⟩ else s

/-! ### Windows (R42) -/

/-- The supply-left-ON mark of a window that begins now (R46). -/
def State.beginMark (s : State) : Bool := decide (s.sensor.state ≠ .on)

/-- The first windows after an entry to RUN (R42, R46). -/
def State.startWindows (s : State) : State :=
  s.withPulse { s.pulse.each (fun c => { c with edges := 0, mark := s.beginMark }) with windows := true }

/-- The windows in progress are abandoned (R42); with no window running the mark's field stands clear
(notes/assumptions/23.md). -/
def State.abandonWindows (s : State) : State :=
  s.withPulse { s.pulse.each (fun c => { c with edges := 0, mark := false }) with windows := false }

/-- PULSE_EDGE (R42). -/
def pulseEdge (ch : Channel) (s : State) : State :=
  if s.pulse.windows then
    let c := s.pulse.get ch
    s.withPulse (s.pulse.set ch { c with edges := satAdd Config.edgeCeiling c.edges 1 })
  else s

/-! ### Plausibility (R45) -/

/-- Whether a frame shadow is fresh, 500 ms after its arrival at most (R27), with the state that has drawn what it needs. Time
is seen at advances of recorder time: fewer than five advances are less than 500 ms, more than five are more, and at five the
answer is a free value (notes/assumptions/3.md). -/
def State.shadowFresh (s : State) (shadow : Option Shadow) : Bool × State :=
  match shadow with
  | none => (false, s)
  | some h => if h.quanta < 5 then (true, s) else if h.quanta = 5 then s.draw else (false, s)

/-- The value of a shadow. -/
def shadowValue (shadow : Option Shadow) : Int := (shadow.map (·.value)).getD 0

/-- Frame GEAR is a valid non-neutral gear, within the tuned counts, once its shadow is fresh (R27). -/
def State.shadowInGear (s : State) : Bool :=
  let v := shadowValue s.board.shadowGear
  nonNeutral v && decide (s.tune.gearbox.store v = v)

/-- CLUTCH is known and RELEASED. -/
def Board.clutchClosed (b : Board) : Bool := b.clutch.known && decide (b.clutch.value = 0)

/-- The zero-count test of a channel (R45), with the state that has drawn what it needs. -/
def State.zeroCountTest (s : State) (ch : Channel) : Bool × State :=
  match ch with
  | .p0 =>
    if 500 < shadowValue s.board.shadowEngine then s.shadowFresh s.board.shadowEngine else (false, s)
  | .p1 =>
    if s.monitor.state = .running ∧ s.board.clutchClosed ∧ s.shadowInGear then s.shadowFresh s.board.shadowGear
    else (false, s)
  | .p2 =>
    if 200 < shadowValue s.board.shadowOutput then s.shadowFresh s.board.shadowOutput else (false, s)
  | .p3 => (false, s)

/-- Whether a channel's window is judged implausible (R45), with the state that has drawn what it needs. -/
def State.implausible (s : State) (ch : Channel) : Bool × State :=
  let c := s.pulse.get ch
  if s.tune.pulse.teeth ch = 0 then (false, s)
  else if 2000 < c.edges ∨ c.mark then (true, s)
  else if c.edges = 0 then s.zeroCountTest ch
  else (false, s)

/-! ### The fault counter (R47) -/

/-- The counter and health of a channel after a judged window, `limit` the fault limit (R47). -/
def stepFault (limit counter : Nat) (health : Health) (bad : Bool) : Nat × Health :=
  match health, bad with
  | .good, true => (counter + 1, if counter + 1 = limit then .faulted else .good)
  | .good, false => (counter - 1, .good)
  | .faulted, true => (min limit (counter + 1), .faulted)
  | .faulted, false => (counter - 1, if counter - 1 = 0 then .good else .faulted)

/-- Step 2 of R44: the counter is stepped, with CHANNEL at an entry to FAULTED (R48). -/
def State.stepChannel (s : State) (ch : Channel) (bad : Bool) : State :=
  let c := s.pulse.get ch
  let after := stepFault s.tune.pulse.limit c.counter c.health bad
  let t := s.withPulse (s.pulse.set ch { c with counter := after.1, health := after.2 })
  if c.health = .good ∧ after.2 = .faulted then t.setNotice .channel else t

/-- The quantity a channel serves (R25). -/
def channelQuantity : Channel → Quantity
  | .p0 => .engineSpeed
  | .p1 => .inputSpeed
  | .p2 => .outputSpeed
  | .p3 => .ptoSpeed

/-- Step 3 of R44: the speed of the window (R43) is offered, and applied on a GOOD channel (R25), clamped by the board (R20). -/
def State.offerSpeed (s : State) (ch : Channel) : State :=
  let c := s.pulse.get ch
  let teeth := s.tune.pulse.teeth ch
  if teeth ≠ 0 ∧ c.health = .good then
    s.applySample (channelQuantity ch) (clampInt 0 8000 ((c.edges * 600 / teeth : Nat) : Int)) .pulse
  else s

/-- The next window of a channel begins (R42, R46). -/
def State.nextWindow (s : State) (ch : Channel) : State :=
  s.withPulse (s.pulse.set ch { s.pulse.get ch with edges := 0, mark := s.beginMark })

/-- WINDOW_END (R44): judge, step the counter, offer the speed, for P0 present CLUTCH; then the next window begins. -/
def windowEnd (ch : Channel) (s : State) : State :=
  if s.pulse.windows then
    let judged := s.implausible ch
    let offered := (judged.2.stepChannel ch judged.1).offerSpeed ch
    let presented := if ch = .p0 then offered.presentClutch else offered
    presented.nextWindow ch
  else s

/-- The channels at an accepted TUNE of PULSE that lowers the fault limit (R49): counters above it come down to it, and a GOOD
channel whose counter is then at it enters FAULTED, with CHANNEL. -/
def State.lowerLimit (s : State) (limit : Nat) : State :=
  let lower := fun (c : ChannelState) =>
    let counter := min limit c.counter
    { c with counter := counter, health := if counter = limit then .faulted else c.health }
  let faults := [s.pulse.p0, s.pulse.p1, s.pulse.p2, s.pulse.p3].any
    (fun c => decide (c.health = .good ∧ (lower c).health = .faulted))
  let t := s.withPulse (s.pulse.each lower)
  if faults then t.setNotice .channel else t

/-! ### Commands -/

/-- PULSE_EDGE (R42). -/
def execPulseEdge (ch : Channel) (s : State) : Host.Outcome State Fault Refusal := s.act (pulseEdge ch)

/-- WINDOW_END (R44). -/
def execWindowEnd (ch : Channel) (s : State) : Host.Outcome State Fault Refusal := s.act (windowEnd ch)

/-- SENSOR_SUPPLY_SHORT (R52, R53). -/
def execSensorSupplyShort (s : State) : Host.Outcome State Fault Refusal := s.act sensorSupplyShort

/-- OFF_TIMER_EXPIRY (R53). -/
def execOffTimerExpiry (s : State) : Host.Outcome State Fault Refusal := s.act offTimerExpiry

/-- TRIAL_TIMER_EXPIRY (R53). -/
def execTrialTimerExpiry (s : State) : Host.Outcome State Fault Refusal := s.act trialTimerExpiry

end Sys2Proof.Machine
end

