-- ==== Sys2Proof/Machine/Duty.lean ====
section
/-! DEFINITION. The duty meter's quantum expiry (R91 to R104), with the crank time it hands to the start monitor (R83). -/

namespace Sys2Proof.Machine

/-- CLUTCH as read at a quantum expiry (R91 step 1): `some true` for DEPRESSED. -/
def State.readClutch (s : State) : Option Bool :=
  if s.board.clutch.known then some (decide (s.board.clutch.value = 1)) else none

/-- The band of a value against three limits (R93). -/
def bandOf (v l1 l2 l3 : Int) : Nat := if v < l1 then 0 else if v < l2 then 1 else if v < l3 then 2 else 3

/-- The load-band cell of the quantum (R93): 4 x speed band + torque band, or 16, the UNKNOWN cell. -/
def State.loadCell (s : State) : Nat :=
  let e := s.tune.engine
  if s.board.engineSpeed.known && s.board.engineTorque.known then
    4 * bandOf s.board.engineSpeed.value e.s1 e.s2 e.s3 + bandOf s.board.engineTorque.value e.t1 e.t2 e.t3
  else 16

/-- An idle quantum (R94). -/
def State.idling (s : State) : Bool :=
  s.board.engineSpeed.known && decide (s.board.engineSpeed.value ≤ (s.tune.engine.idle : Int))
    && (!s.board.outputSpeed.known || decide (s.board.outputSpeed.value = 0))

/-- The gear-time cell of the quantum (R95): F1..F12, REV1, REV2, N, UNKNOWN. -/
def State.gearCell (s : State) : Nat :=
  let v := s.board.gear.value
  if !s.board.gear.known then 15
  else if v = 0 then 14
  else if v = -1 then 12
  else if v = -2 then 13
  else if 1 ≤ v ∧ v ≤ 12 then v.toNat - 1
  else 15

/-- Step 4, the PTO (R97). -/
def State.meterPto (s : State) : State :=
  let r := s.board.ptoSpeed
  if !r.known then s
  else if 100 < r.value then
    let t := if s.duty.ptoAbove then s else s.land .ptoEngagement
    let u := t.land .ptoTime
    u.withDuty { u.duty with ptoAbove := true }
  else s.withDuty { s.duty with ptoAbove := false }

/-- Step 5, overspeed (R98). -/
def State.meterOverspeed (s : State) : State :=
  let r := s.board.engineSpeed
  let limit : Int := s.tune.engine.overspeed
  if !r.known then s.withDuty { s.duty with overspeedCount := none }
  else if limit < r.value then
    if s.duty.overspeedArmed then
      match s.duty.overspeedCount with
      | none => s.withDuty { s.duty with overspeedCount := some 0 }
      | some n =>
        if n < 9 then s.withDuty { s.duty with overspeedCount := some (n + 1) }
        else
          let t := s.land .overspeed
          (t.withDuty { t.duty with overspeedCount := none, overspeedArmed := false }).setNotice .abuse
    else s
  else s.withDuty { s.duty with
    overspeedCount := none
    overspeedArmed := s.duty.overspeedArmed || decide (r.value < limit - 100) }

/-- The slip measured at step 6, if it is (R100). -/
def State.slipNow (s : State) : Option Nat :=
  if s.board.engineSpeed.known && s.board.inputSpeed.known then
    some (s.board.engineSpeed.value - s.board.inputSpeed.value).natAbs
  else none

/-- The remainder an accrual starts from (R101): the CLUTCH slot's, or the meter's spare. -/
def State.energyRemainder (s : State) : Nat :=
  match (findSlot s.slots .clutch 1).bind s.slotAt with
  | some c => match c.body with
    | .clutch b => b.remainder
    | _ => s.duty.spare
  | none => s.duty.spare

/-- `p` of R100: |t| x R x slip + r. -/
def State.slipWork (s : State) (slip : Nat) : Nat :=
  s.board.engineTorque.value.natAbs * s.tune.engine.reference * slip + s.energyRemainder

/-- Whether energy accrues in this quantum (R100), for the slip measured. -/
def State.energyAccrues (s : State) (slip : Nat) : Bool :=
  decide (s.tune.clutch.floor ≤ slip) && s.board.inGear && s.board.engineTorque.known

/-- The quantum's joules (R100). -/
def State.quantumJoules (s : State) : Nat :=
  match s.slipNow with
  | some slip => if s.energyAccrues slip then s.slipWork slip / Config.energyDivisor else 0
  | none => 0

/-- Step 6, slip energy (R100, R101): the pair is handed to the CLUTCH slot and the joules to the register; with no CLUTCH
slot FITTED the spare remainder takes the new remainder. -/
def State.meterSlip (s : State) : State :=
  match s.slipNow with
  | some slip =>
    if s.energyAccrues slip then
      let p := s.slipWork slip
      let t := s.land (.slipEnergy (p / Config.energyDivisor) (p % Config.energyDivisor))
      if (findSlot s.slots .clutch 1).isSome then t
      else t.withDuty { t.duty with spare := p % Config.energyDivisor }
    else s
  | none => s

/-- A clutch engagement is due (R102). -/
def State.engagementDue (s : State) : Bool :=
  decide (s.duty.lastClutch = some true) && s.board.clutchClosed
    && (s.board.inGear || (s.board.gear.known && decide (s.board.gear.value = 0)))

/-- An open window's quiet count after the quantum (R103). -/
def quietAfter (floor quiet : Nat) (slip : Option Nat) : Nat :=
  match slip with
  | some n => if n < floor then quiet + 1 else 0
  | none => quiet

/-- An open window advances, and is closed and judged when it is quiet for five quanta or fifty old (R103, R104). -/
def State.advanceWindow (s : State) (w : Engagement) (joules : Nat) : State :=
  let next : Engagement :=
    ⟨satAdd Config.energyCeiling w.sum joules, w.age + 1, quietAfter s.tune.clutch.floor w.quiet s.slipNow⟩
  let t := s.withDuty { s.duty with window := some next }
  if 5 ≤ next.quiet ∨ 50 ≤ next.age then t.closeWindow else t

/-- Step 7, the engagement window (R102, R103), for the joules of step 6. -/
def State.meterWindow (s : State) (joules : Nat) : State :=
  if s.engagementDue then
    let t := (s.land .clutchEngagement).closeWindow
    t.withDuty { t.duty with window := some ⟨joules, 0, 0⟩ }
  else match s.duty.window with
    | some w => s.advanceWindow w joules
    | none => s

/-- Steps 2 to 7 of a metered quantum (R91). -/
def State.meter (s : State) : State :=
  let ran := (s.land (.engineQuantum s.loadCell s.idling)).land (.gearTime s.gearCell)
  (ran.meterPto.meterOverspeed.meterSlip).meterWindow s.quantumJoules

/-- QUANTUM_EXPIRY (R90, R91): in RUN, with the quantum timer running, the quantum is metered while the start monitor is in
RUNNING, a quantum of crank time is counted while it is in CRANKING (R83), and the last clutch reading is set. -/
def quantumExpiry (s : State) : State :=
  if s.duty.quantumTimer.isRunning ∧ s.supply.power = .run then
    let metered := match s.monitor.state with
      | .running => s.meter
      | .cranking => s.land .crankTime
      | _ => s
    metered.withDuty { metered.duty with quantumTimer := .running 0, lastClutch := s.readClutch }
  else s

/-! ### Commands -/

/-- QUANTUM_EXPIRY (R91). -/
def execQuantumExpiry (s : State) : Host.Outcome State Fault Refusal := s.act quantumExpiry

end Sys2Proof.Machine
end

