-- ==== Sys2Proof/Machine/Power.lean ====
section
/-! DEFINITION. The power states (R162, R165, R166) and what an entry to each hands to the other blocks; the battery's
comparisons (R163 to R165); the debounced lines (R38 to R41); recorder time (R167). -/

namespace Sys2Proof.Machine

/-! ### Levels of the battery in millivolts (R162) -/

/-- A level given for a 12 V system, doubled for a 24 V system (R162). -/
def SystemVoltage.level (v : SystemVoltage) (at12 : Nat) : Nat :=
  match v with
  | .v12 => at12
  | .v24 => 2 * at12

/-- Crank dip: 10.5 V or 21.0 V. -/
def State.dipLevel (s : State) : Nat := s.tune.supply.voltage.level 10500

/-- Dip recovery: 11.0 V or 22.0 V. -/
def State.recoveryLevel (s : State) : Nat := s.tune.supply.voltage.level 11000

/-- Low-supply warning: 9.0 V or 18.0 V. -/
def State.warningLevel (s : State) : Nat := s.tune.supply.voltage.level 9000

/-- Stop: 6.0 V or 12.0 V. -/
def State.stopLevel (s : State) : Nat := s.tune.supply.voltage.level 6000

/-- Restart: 7.0 V or 14.0 V. -/
def State.restartLevel (s : State) : Nat := s.tune.supply.voltage.level 7000

/-! ### Entries to the power states -/

/-- The power state is set and shown (R162). -/
def State.setPower (s : State) (p : PowerState) : State :=
  (s.withSupply { s.supply with power := p }).publishPower

/-- The quantum in progress is abandoned and its timer stopped (R90); the self-poll timer is stopped (R145). -/
def State.stopRunTimers (s : State) : State :=
  (s.withDuty { s.duty with quantumTimer := .stopped }).withScanner { s.scanner with selfPoll := .stopped }

/-- The doze timer at an entry to RUN (R166): one frozen by HOLD resumes; else it starts if the monitor is OFF. -/
def State.dozeEnterRun (s : State) : State :=
  let doze := match s.supply.doze with
    | .frozen ms => .running ms
    | _ => if s.monitor.state = .off then .running 30000 else .stopped
  s.withSupply { s.supply with doze := doze }

/-- Entry to RUN (R42, R51, R90, R102, R145, R166, R169): the sensor supply takes its change, then the windows, the quantum
and the self-poll start. The power state is rewritten in the control block at the first entry too (notes/assumptions/28.md). -/
def State.enterRun (s : State) : State :=
  let t := (s.setPower .run).sensorEnterRun.startWindows
  let u := (t.withDuty { t.duty with quantumTimer := .running 0, lastClutch := none }).withScanner
    { t.scanner with selfPoll := .running 1000 }
  let v := (u.withSupply { u.supply with started := true }).dozeEnterRun
  v.journalEnterRun

/-- Entry to DOZE (R23, R42, R51, R90, R145, R166, R169). -/
def State.enterDoze (s : State) : State :=
  let t := (s.setPower .doze).stopRunTimers.abandonWindows.sensorRest
  let u := (t.withSupply { t.supply with doze := .stopped }).withJournal
    { t.journal with period := t.journal.period.freeze }
  u.boardEnterDoze

/-- Entry to HOLD from RUN or DOZE (R165): the prior state is recorded, HOLD set, and the entry handed to every block. -/
def State.enterHold (s : State) : State :=
  let t := ((s.withSupply { s.supply with
    prior := s.supply.power, filter := .stopped, rearm := .stopped, dwell := .stopped,
    doze := s.supply.doze.freeze }).setPower .hold).setNotice .hold
  t.stopRunTimers.abandonWindows.sensorRest.monitorEnterHold.journalEnterHold

/-- The warning at the exit from HOLD, by the battery as it stands (R164). -/
def State.rejudgeWarning (s : State) : State :=
  if s.supply.armed ∧ s.supply.battery < s.warningLevel then s.withSupply { s.supply with filter := .running 0 }
  else if ¬ s.supply.armed ∧ s.warningLevel < s.supply.battery then
    s.withSupply { s.supply with rearm := .running 1000 }
  else s

/-- The part leaves HOLD for its prior power state (R165): the entry is handed to every block, the monitor takes the steps
of R85, the warning is judged (R164), and the journal starts its checkpoint (notes/assumptions/14.md). -/
def State.leaveHold (s : State) : State :=
  let t := s.withSupply { s.supply with dwell := .stopped }
  let u := match s.supply.prior with
    | .doze => t.enterDoze
    | _ => t.enterRun
  u.monitorLeaveHold.rejudgeWarning.journalLeaveHold

/-! ### The battery -/

/-- The measured battery is taken (R162). -/
def State.measure (s : State) (mv : Nat) : State := s.withSupply { s.supply with battery := mv }

/-- BATTERY_BELOW_CRANK_DIP (R163), in every power state. -/
def batteryBelowCrankDip (mv : Nat) (s : State) : State :=
  let t := s.measure mv
  if mv < s.dipLevel ∧ !s.supply.dipped then (t.withSupply { t.supply with dipped := true }).monitorDip else t

/-- BATTERY_ABOVE_DIP_RECOVERY (R163), in every power state. -/
def batteryAboveDipRecovery (mv : Nat) (s : State) : State :=
  let t := s.measure mv
  if s.recoveryLevel < mv ∧ s.supply.dipped then (t.withSupply { t.supply with dipped := false }).monitorRecovery
  else t

/-- BATTERY_BELOW_WARNING (R164), in RUN and DOZE: it starts the filter when armed, and stops the re-arm timer when not. -/
def batteryBelowWarning (mv : Nat) (s : State) : State :=
  let t := s.measure mv
  if s.supply.power ≠ .hold ∧ mv < s.warningLevel then
    if s.supply.armed then
      if s.supply.filter.isRunning then t else t.withSupply { t.supply with filter := .running 0 }
    else t.withSupply { t.supply with rearm := .stopped }
  else t

/-- BATTERY_ABOVE_WARNING (R164), in RUN and DOZE: it stops the filter, and starts the re-arm timer when not armed. -/
def batteryAboveWarning (mv : Nat) (s : State) : State :=
  let t := s.measure mv
  if s.supply.power ≠ .hold ∧ s.warningLevel < mv then
    let rearm := if s.supply.armed ∨ s.supply.rearm.isRunning then s.supply.rearm else .running 1000
    t.withSupply { t.supply with filter := .stopped, rearm := rearm }
  else t

/-- WARNING_FILTER_EXPIRY (R164). -/
def warningFilterExpiry (s : State) : State := if s.supply.filter.isRunning then s.warn else s

/-- REARM_TIMER_EXPIRY (R164). -/
def rearmTimerExpiry (s : State) : State :=
  if s.supply.rearm.isRunning then s.withSupply { s.supply with rearm := .stopped, armed := true } else s

/-- BATTERY_BELOW_STOP (R165). The samples that wait in RUN are taken at their slots before the entry to HOLD, which itself leaves the
table as it is (R6, R122, notes/assumptions/33.md). -/
def batteryBelowStop (mv : Nat) (s : State) : State :=
  if s.supply.power ≠ .hold ∧ mv < s.stopLevel then (s.takeAllWaiting.measure mv).enterHold else s.measure mv

/-- BATTERY_ABOVE_RESTART (R165), in HOLD: a rise above the level starts the dwell, a fall to or below it stops it. -/
def batteryAboveRestart (mv : Nat) (s : State) : State :=
  let t := s.measure mv
  if s.supply.power = .hold then
    if s.restartLevel < mv then
      if s.supply.dwell.isRunning then t else t.withSupply { t.supply with dwell := .running 250 }
    else t.withSupply { t.supply with dwell := .stopped }
  else t

/-- RESTART_DWELL_EXPIRY (R165). -/
def restartDwellExpiry (s : State) : State :=
  if s.supply.power = .hold ∧ s.supply.dwell.isRunning then s.leaveHold else s

/-- DOZE_TIMER_EXPIRY (R166): with the PTO turning the timer starts again; otherwise the part enters DOZE. The part is in RUN
while IGN is active or the monitor is not OFF. The samples that wait are taken at their slots before the entry to DOZE, which itself
leaves the table as it is (R6, R122, notes/assumptions/33.md). A timer that an entry to OFF starts before the last starting level runs
out as any other: the model's choice (notes/assumptions/35.md). -/
def dozeTimerExpiry (s : State) : State :=
  if s.supply.power = .run ∧ s.supply.doze.isRunning ∧ ¬ s.ignOn ∧ s.monitor.state = .off then
    if s.board.ptoSpeed.known ∧ 100 < s.board.ptoSpeed.value then
      s.withSupply { s.supply with doze := .running 30000 }
    else s.takeAllWaiting.enterDoze
  else s

/-! ### Recorder time (R167) -/

/-- One quantum passes on a quantity record's freshness timer. -/
def QRecord.countUp (r : QRecord) : QRecord := { r with timer := r.timer.countUp }

/-- One more advance of recorder time since a shadow's arrival. -/
def Shadow.countUp (h : Shadow) : Shadow := { h with quanta := h.quanta + 1 }

/-- One quantum passes on the board. -/
def Board.countUp (b : Board) : Board where
  engineSpeed := b.engineSpeed.countUp
  inputSpeed := b.inputSpeed.countUp
  outputSpeed := b.outputSpeed.countUp
  ptoSpeed := b.ptoSpeed.countUp
  engineTorque := b.engineTorque.countUp
  coolantTemp := b.coolantTemp.countUp
  clutch := b.clutch.countUp
  gear := b.gear.countUp
  shadowEngine := b.shadowEngine.map Shadow.countUp
  shadowOutput := b.shadowOutput.map Shadow.countUp
  shadowGear := b.shadowGear.map Shadow.countUp

/-- One quantum passes on every timer that is kept to the quantum (notes/assumptions/3.md). -/
def State.passQuantum (s : State) : State :=
  { s with
    board := s.board.countUp
    monitor := { s.monitor with
      crankTimer := s.monitor.crankTimer.countUp
      catchTimer := s.monitor.catchTimer.countDown
      stopTimer := s.monitor.stopTimer.countDown }
    supply := { s.supply with
      filter := s.supply.filter.countUp
      rearm := s.supply.rearm.countDown
      dwell := s.supply.dwell.countDown
      doze := s.supply.doze.countDown }
    sensor := { s.sensor with
      offTimer := s.sensor.offTimer.countDown, trialTimer := s.sensor.trialTimer.countDown }
    scanner := { s.scanner with selfPoll := s.scanner.selfPoll.countDown }
    depot := { s.depot with timer := s.depot.timer.countDown }
    journal := { s.journal with period := s.journal.period.countDown, retry := s.journal.retry.countDown } }

/-- RECORDER_TIME_ADVANCE (R167), in every power state. -/
def recorderTimeAdvance (s : State) : State :=
  let t := s.passQuantum
  (t.withSupply { t.supply with recorderTime := bumpTime t.supply.recorderTime }).publishTime

/-! ### The lines -/

/-- LINE_RAW_CHANGE (R38, R39): the debounce timer starts toward a level that differs and stops when the level returns. Before
its starting level is given the line only waits. -/
def lineRawChange (line : Line) (level : Bool) (s : State) : State :=
  let l := s.lines.get line
  let moved : LineState :=
    if l.starting then { l with raw := level }
    else { l with raw := level, pendingLevel := if level = l.level then none else some level }
  s.withLines (s.lines.set line moved)

/-- An IGN or CRANK rise at the supply monitor (R165, R166): it wakes the part from DOZE, and in HOLD sets the prior state to
RUN. An active starting level of IGN does the same (notes/assumptions/35.md). -/
def State.wake (s : State) : State :=
  match s.supply.power with
  | .doze => s.enterRun
  | .hold => s.withSupply { s.supply with prior := .run }
  | .run => s

/-- An IGN rise at depot control (R156): the lockout flag and the wrong-code count are cleared. -/
def State.depotIgnRise (s : State) : State :=
  let t := s.withDepot { s.depot with wrongCodes := 0, lockout := false }
  if s.depot.lockout then t.publishDepot else t

/-- The sensor supply and the supply monitor take an IGN rise; out of DOZE with the supply LOCKED-OFF the order matters, and
is a free value (R54, notes/assumptions/4.md). -/
def State.wakeAndSensor (s : State) : State :=
  if s.supply.power = .doze ∧ s.sensor.state = .lockedOff then
    let d := s.draw
    if d.1 then d.2.sensorIgnRise.wake else d.2.wake.sensorIgnRise
  else s.wake.sensorIgnRise

/-- A debounced change is delivered (R40, R41), to its recipients in one order (notes/assumptions/15.md); CLUTCH
and REVERSE are presented while the power state is RUN, which it is from power-on (notes/assumptions/24.md). -/
def State.deliverLine (s : State) (line : Line) (level : Bool) : State :=
  match line with
  | .ign => if level then s.monitorIgnRise.wakeAndSensor.depotIgnRise else s.monitorIgnFall
  | .crank => if level then s.monitorCrankRise.wake else s.monitorCrankFall
  | .clutch => if s.supply.power = .run then s.presentClutch else s
  | .reverse => if s.supply.power = .run ∧ s.tune.start.reverseWired then s.evaluateGear else s

/-- DEBOUNCE_EXPIRY (R38): the debounced level becomes the pending level, and the change is delivered. -/
def debounceExpiry (line : Line) (s : State) : State :=
  let l := s.lines.get line
  match l.pendingLevel with
  | some level =>
    (s.withLines (s.lines.set line { l with level := level, pendingLevel := none })).deliverLine line level
  | none => s

/-- Every line's starting level has been given. -/
def Lines.settled (l : Lines) : Bool :=
  !l.ign.starting && !l.crank.starting && !l.clutch.starting && !l.reverse.starting

/-- STARTING_LEVEL (R39): the raw level becomes the line's debounced level, and is no change; an active IGN arms the monitor
(R86), and takes a part in DOZE to RUN, where R166 has it while IGN is active. When the last of them is given the part enters RUN, if
it is not in HOLD and has not entered it before (R166, notes/assumptions/13.md). A part whose doze timer, started by an entry to OFF
before the last level, has run out meanwhile is in DOZE, and these two take it to RUN: the model's choice (DESIGN CHOICE,
notes/assumptions/35.md). -/
def startingLevel (line : Line) (s : State) : State :=
  let l := s.lines.get line
  if l.starting then
    let t := s.withLines (s.lines.set line { l with level := l.raw, pendingLevel := none, starting := false })
    let u := if line = .ign ∧ l.raw then t.monitorIgnRise.wake else t
    if u.lines.settled ∧ u.supply.power ≠ .hold ∧ ¬ u.supply.started then u.enterRun else u
  else s

/-! ### Commands -/

/-- BATTERY_BELOW_CRANK_DIP (R163). -/
def execBatteryBelowCrankDip (mv : Nat) (s : State) : Host.Outcome State Fault Refusal := s.act (batteryBelowCrankDip mv)

/-- BATTERY_ABOVE_DIP_RECOVERY (R163). -/
def execBatteryAboveDipRecovery (mv : Nat) (s : State) : Host.Outcome State Fault Refusal := s.act (batteryAboveDipRecovery mv)

/-- BATTERY_BELOW_WARNING (R164). -/
def execBatteryBelowWarning (mv : Nat) (s : State) : Host.Outcome State Fault Refusal := s.act (batteryBelowWarning mv)

/-- BATTERY_ABOVE_WARNING (R164). -/
def execBatteryAboveWarning (mv : Nat) (s : State) : Host.Outcome State Fault Refusal := s.act (batteryAboveWarning mv)

/-- WARNING_FILTER_EXPIRY (R164). -/
def execWarningFilterExpiry (s : State) : Host.Outcome State Fault Refusal := s.act warningFilterExpiry

/-- REARM_TIMER_EXPIRY (R164). -/
def execRearmTimerExpiry (s : State) : Host.Outcome State Fault Refusal := s.act rearmTimerExpiry

/-- BATTERY_BELOW_STOP (R165). -/
def execBatteryBelowStop (mv : Nat) (s : State) : Host.Outcome State Fault Refusal := s.act (batteryBelowStop mv)

/-- BATTERY_ABOVE_RESTART (R165). -/
def execBatteryAboveRestart (mv : Nat) (s : State) : Host.Outcome State Fault Refusal := s.act (batteryAboveRestart mv)

/-- RESTART_DWELL_EXPIRY (R165). -/
def execRestartDwellExpiry (s : State) : Host.Outcome State Fault Refusal := s.act restartDwellExpiry

/-- DOZE_TIMER_EXPIRY (R166). -/
def execDozeTimerExpiry (s : State) : Host.Outcome State Fault Refusal := s.act dozeTimerExpiry

/-- RECORDER_TIME_ADVANCE (R167). -/
def execRecorderTimeAdvance (s : State) : Host.Outcome State Fault Refusal := s.act recorderTimeAdvance

/-- LINE_RAW_CHANGE (R38). -/
def execLineRawChange (line : Line) (level : Bool) (s : State) : Host.Outcome State Fault Refusal := s.act (lineRawChange line level)

/-- DEBOUNCE_EXPIRY (R38, R40). -/
def execDebounceExpiry (line : Line) (s : State) : Host.Outcome State Fault Refusal := s.act (debounceExpiry line)

/-- STARTING_LEVEL (R39). -/
def execStartingLevel (line : Line) (s : State) : Host.Outcome State Fault Refusal := s.act (startingLevel line)

end Sys2Proof.Machine
end

