-- ==== Sys2Proof/Machine/Scanner.lean ====
section
/-! DEFINITION. The slip scanner (R145 to R151): nudges, the taking of a slip, its dispatch to a block, its wait for a
checkpoint and its return. -/

namespace Sys2Proof.Machine

/-! ### The scanner's fields -/

/-- The scanner changes; its state and cursor are rewritten at each change of either (R142). -/
def State.setScanner (s : State) (v : Scanner) : State :=
  if v.state = s.scanner.state ∧ v.cursor = s.scanner.cursor then s.withScanner v
  else (s.withScanner v).publishScanner

/-- The cursor after the return of a slip (R149). -/
def State.nextCursor (s : State) (ringEnd : Bool) : Nat :=
  if ringEnd ∨ s.port.ring ≤ s.scanner.cursor + 1 then 0 else s.scanner.cursor + 1

/-! ### Results -/

/-- What a returned slip carries: status, detail, and the length used of the out-buffer (R148). -/
structure Result where
  status : Status
  detail : Nat
  used : Nat
deriving DecidableEq, Repr

/-- A refusal with detail 0; a refused slip has out-length 0 (R143). -/
def refusal (status : Status) : Result := ⟨status, 0, 0⟩

/-- What a block answers for a slip it has checked (R148): back at once, accepted and waiting for a checkpoint with the
detail and out-length given at acceptance, or a FEED that runs. -/
inductive Verdict where
  | back (r : Result)
  | wait (detail used : Nat)
  | runs
deriving DecidableEq, Repr

/-! ### The return of a slip (R148, R149) -/

/-- CLEAR (R148 step 1): zero from the used length up to the offered capacity. -/
def State.clearTail (s : State) (p : Slip) (r : Result) : State :=
  if p.clear ∧ r.status ≠ .badReference then
    s.withPort { s.port with mem := memZero s.port.mem (p.outOffset + r.used) (p.outOffset + p.outLength) }
  else s

/-- The return fields (R148 steps 2 and 3), in their order: detail, out-length, status, and then the owner. -/
def State.writeReturn (s : State) (r : Result) : State :=
  let a := slipAddress s.scanner.cursor
  (((s.store (a + 14) (leBytes 2 r.detail)).store (a + 12) (leBytes 2 r.used)).store (a + 3)
    (leBytes 1 r.status.code)).store a [0]

/-- A slip is given back (R148): steps 1 to 4, and the advance of the cursor. -/
def State.giveBack (s : State) (p : Slip) (r : Result) : State :=
  let t := (s.clearTail p r).writeReturn r
  let u := if p.notify then t.setNotice .slip else t
  u.setScanner { u.scanner with held := none, cursor := s.nextCursor p.ringEnd }

/-! ### Reading the slip at the cursor (R147) -/

/-- Steps that a reading of the ring can take at most: each of the 64 slips refused for its kind, one rereading, and the slip
at which the scanner stops. -/
def readingLimit : Nat := 66

/-- The slip at the cursor is read (R147). A DEVICE slip is taken: one of the twelve kinds stays held for its own command;
another is refused at once, after the reference check, and the next slip is read (R148, notes/assumptions/8.md). A HOST slip
is read once more when a nudge is pending, and otherwise the scanner goes IDLE. The first argument bounds the readings. -/
def readSlips : Nat → State → State
  | 0, s => s.setScanner { s.scanner with state := .idle }
  | n + 1, s =>
    let a := slipAddress s.scanner.cursor
    if s.byteAt a = BitVec.ofNat 8 Config.ownerDevice then
      match kindOfCode (s.byteAt (a + 1)).toNat with
      | some kind => s.withScanner { s.scanner with held := some ⟨readSlip s.port.mem a kind, 0, 0⟩ }
      | none =>
        let p := readSlip s.port.mem a .nop
        readSlips n (s.giveBack p (refusal (if p.referencesGood then .badKind else .badReference)))
    else if s.scanner.nudgePending then readSlips n (s.withScanner { s.scanner with nudgePending := false })
    else s.setScanner { s.scanner with state := .idle }

/-- A slip is returned and the next slip is read (R148). -/
def State.returnSlip (s : State) (p : Slip) (r : Result) : State := readSlips readingLimit (s.giveBack p r)

/-! ### Nudges (R146) -/

/-- A nudge acts on the scanner. -/
def State.takeNudge (s : State) : State :=
  if s.scanner.state = .idle then readSlips readingLimit (s.setScanner { s.scanner with state := .scanning })
  else s.withScanner { s.scanner with nudgePending := true }

/-! ### Dispatch (R144, R148) and the wait (R150) -/

/-- The held slip that waits for the command of a kind. -/
def State.dispatched (s : State) (kind : SlipKind) : Option Slip :=
  match s.scanner.state, s.scanner.held with
  | .scanning, some h => if h.slip.kind = kind then some h.slip else none
  | _, _ => none

/-- An accepted slip waits for a checkpoint (R150): the scanner is in WAIT-SAVE, the journal has its waiting slip, and a
checkpoint is triggered. -/
def State.waitSave (s : State) (h : Held) : State :=
  let t := s.setScanner { s.scanner with state := .waitSave, held := some h }
  (t.withJournal { t.journal with waiting := some false }).trigger

/-- The scanner acts on a block's answer (R148). -/
def State.conclude (s : State) (p : Slip) : Verdict → State
  | .back r => s.returnSlip p r
  | .wait detail used => s.waitSave ⟨p, detail, used⟩
  | .runs => s

/-- The command of a kind: the held slip's references are checked (R144), its block does its work, and the scanner acts on
the answer (R148). With no slip of the kind held nothing happens (notes/assumptions/6.md). -/
def State.carryOut (s : State) (kind : SlipKind) (work : Slip → State → Verdict × State) : State :=
  match s.dispatched kind with
  | some p =>
    if p.referencesGood then
      let answer := work p s
      answer.2.conclude p answer.1
    else s.returnSlip p (refusal .badReference)
  | none => s

/-- The journal releases the waiting slip (R150, R170): it is returned DONE with the detail and out-length of its
acceptance, a SAVE with the low 16 bits of the page's sequence (R151), and the scanner reads on. -/
def State.releaseSlip (s : State) (sequence : Nat) : State :=
  match s.scanner.held with
  | some h =>
    let detail := if h.slip.kind = .save then sequence % 65536 else h.detail
    let t := (s.withJournal { s.journal with waiting := none }).giveBack h.slip ⟨.done, detail, h.used⟩
    readSlips readingLimit (t.setScanner { t.scanner with state := .scanning })
  | none => s.withJournal { s.journal with waiting := none }

/-! ### Commands -/

/-- NUDGE (R146): no effect while RESETn is low (R153). -/
def execNudge (s : State) : Host.Outcome State Fault Refusal :=
  s.act (fun s => if s.resetLow then s else s.takeNudge)

/-- SELF_POLL_EXPIRY (R146): in RUN the timer starts again at 1 s and acts as a nudge. -/
def execSelfPollExpiry (s : State) : Host.Outcome State Fault Refusal :=
  s.act (fun s =>
    if s.supply.power = .run ∧ s.scanner.selfPoll.isRunning then
      (s.withScanner { s.scanner with selfPoll := .running 1000 }).takeNudge
    else s)

/-- NOP (R151). -/
def execNop (s : State) : Host.Outcome State Fault Refusal :=
  s.act (fun s => s.carryOut .nop (fun _ t => (.back ⟨.done, 0, 0⟩, t)))

/-- SAVE (R151). -/
def execSave (s : State) : Host.Outcome State Fault Refusal :=
  s.act (fun s => s.carryOut .save (fun _ t => (.wait 0 0, t)))

end Sys2Proof.Machine
end

