-- ==== Sys2Proof/Machine/Port.lean ====
section
/-! DEFINITION. The exchange port (R140, R141, R152): the host's writes, which are commands, and what the host reads, which
changes nothing. While RESETn is low the port takes no transaction (R153). -/

namespace Sys2Proof.Machine

/-! ### Writes -/

/-- A transaction at the port of a part with supply; discarded while RESETn is low (R153). -/
def State.transact (s : State) (f : State → State) : Host.Outcome State Fault Refusal :=
  s.act (fun s => if s.resetLow then s else f s)

/-- The bits of a two-byte register that a write of these bytes gives, the low byte first; a byte not written stays as in
`old` (notes/assumptions/16.md), and bytes beyond the second and bits 12 to 15 are ignored (R140, 12.2). -/
def writtenBits (old : BitVec 12) : List Byte → BitVec 12
  | [] => old
  | [lo] => (old &&& 0xF00#12) ||| lo.setWidth 12
  | lo :: hi :: _ => (hi.setWidth 12 <<< 8) ||| lo.setWidth 12

/-- RING_WRITE (R141): the first byte clamped to 4..64. -/
def execRingWrite (data : List Byte) (s : State) : Host.Outcome State Fault Refusal :=
  s.transact (fun s => match data with
    | [] => s
    | b :: _ => s.withPort { s.port with ring := clampNat 4 64 b.toNat })

/-- NOTICE_WRITE (R152): each bit written 1 clears its notice; a byte not written clears none. -/
def execNoticeWrite (data : List Byte) (s : State) : Host.Outcome State Fault Refusal :=
  s.transact (fun s => s.withPort { s.port with notice := s.port.notice &&& ~~~(writtenBits 0 data) })

/-- NOTICE_MASK_WRITE (R152): the mask is stored as written. -/
def execNoticeMaskWrite (data : List Byte) (s : State) : Host.Outcome State Fault Refusal :=
  s.transact (fun s => s.withPort { s.port with mask := writtenBits s.port.mask data })

/-- REGISTER_WRITE_IGNORED (R140, R141): nothing happens. -/
def execRegisterWriteIgnored (op : Byte) (addr : BitVec 16) (data : List Byte) (s : State) :
    Host.Outcome State Fault Refusal :=
  match op, addr, data with
  | _, _, _ => s.transact (fun s => s)

/-- EXCHANGE_MEMORY_WRITE (R140): consecutive bytes from the address on, modulo 0x8000. -/
def execExchangeMemoryWrite (addr : BitVec 16) (data : List Byte) (s : State) : Host.Outcome State Fault Refusal :=
  s.transact (fun s => s.store addr.toNat data)

/-! ### Reads -/

/-- The bytes of a register within its width (12.2); none for an unlisted address. -/
def State.portRegister (s : State) (addr : Nat) : List Byte :=
  match addr with
  | 0 => identBytes
  | 1 => leBytes 1 s.port.ring
  | 2 => [0]
  | 3 => leBytes 2 s.port.notice.toNat
  | 4 => leBytes 2 s.port.mask.toNat
  | _ => []

/-- The `n` data bytes that a transaction answers (R140): zeros for a write, an unlisted operation or register, beyond a
register's width, and while RESETn is low or supply is off. -/
def State.spiRead (s : State) (op : Byte) (addr : BitVec 16) (n : Nat) : List Byte :=
  if !s.powered ∨ s.resetLow then List.replicate n 0
  else if op = 0x02 then memBytes s.port.mem n addr.toNat
  else if op = 0x0A then padTo n (s.portRegister addr.toNat)
  else List.replicate n 0

end Sys2Proof.Machine
end

