-- ==== Sys2Proof/Machine/Intake.lean ====
section
/-! DEFINITION. Frame intake (chapter 4): the ROUTE load, and a FEED record by record and candidate by candidate. -/

namespace Sys2Proof.Machine

/-! ### ROUTE (R58, R59) -/

/-- A ROUTE in-buffer checked by R58: its entries, or the refusal of the first check that fails. -/
def checkRoute (m : Memory) (p : Slip) : Except Result (List RouteEntry) :=
  let count := memLe m 2 p.inOffset
  if p.inLength < 4 then .error (refusal .badLength)
  else if Config.routeLimit < count then .error ⟨.badRoute, count, 0⟩
  else if p.inLength ≠ 4 + 16 * count then .error (refusal .badLength)
  else match readRouteEntries m count 0 (p.inOffset + 4) with
    | .error index => .error ⟨.badRoute, index, 0⟩
    | .ok entries => match firstClash [] entries 0 with
      | some index => .error ⟨.badRoute, index, 0⟩
      | none => .ok entries

/-- The route table is replaced whole, every mark none, and the ROUTE notice set (R59). -/
def State.loadRoutes (s : State) (entries : List RouteEntry) : State :=
  (s.withIntake { s.intake with routes := entries.map (fun e => ⟨e, none⟩) }).setNotice .route

/-- ROUTE at the intake (R58, R59). -/
def routeWork (p : Slip) (s : State) : Verdict × State :=
  match checkRoute s.port.mem p with
  | .error r => (.back r, s)
  | .ok entries => (.back ⟨.done, entries.length, 0⟩, s.loadRoutes entries)

/-- ROUTE. -/
def execRoute (s : State) : Host.Outcome State Fault Refusal := s.act (fun s => s.carryOut .route routeWork)

/-! ### FEED (R60, R61) -/

/-- FEED at the intake (R60): accepted when the in-length is a multiple of 16; one of no records completes at once. A FEED in
progress is not begun again. Its records are left to FEED_CANDIDATE (notes/assumptions/18.md). -/
def feedWork (p : Slip) (s : State) : Verdict × State :=
  if s.intake.feed.isSome then (.runs, s)
  else if p.inLength % 16 ≠ 0 then (.back (refusal .badLength), s)
  else if p.inLength = 0 then (.back ⟨.done, 0, 0⟩, s)
  else (.runs, s.withIntake { s.intake with feed := some ⟨p.inOffset, p.inLength / 16, 0, none, 0⟩ })

/-- FEED. -/
def execFeed (s : State) : Host.Outcome State Fault Refusal := s.act (fun s => s.carryOut .feed feedWork)

/-! ### A candidate (R62 to R67) -/

/-- The little-endian number of a frame's data bytes, whose bit k is bit (k mod 8) of byte k / 8 (R62). -/
def leNat : List Byte → Nat
  | [] => 0
  | b :: rest => b.toNat + 256 * leNat rest

/-- An entry's field of a frame, unsigned (R62). -/
def RouteEntry.field (e : RouteEntry) (f : Frame) : Nat := leNat f.data / 2 ^ e.startBit % 2 ^ e.width

/-- The field lies within the frame (R62). -/
def RouteEntry.inFrame (e : RouteEntry) (f : Frame) : Bool := decide (e.startBit + e.width ≤ 8 * f.length)

/-- The field says "not available" (R63). -/
def RouteEntry.notAvailable (e : RouteEntry) (f : Frame) : Bool :=
  !e.signed && decide (e.field f = 2 ^ e.width - 1)

/-- The raw value (R63). -/
def RouteEntry.raw (e : RouteEntry) (f : Frame) : Int :=
  if e.signed ∧ 2 ^ e.width ≤ 2 * e.field f then (e.field f : Int) - 2 ^ e.width else e.field f

/-- The host time is earlier than the mark (R64): the difference modulo 2^32 lies in 1..2^31 - 1. -/
def isLate (mark : Option (BitVec 32)) (time : BitVec 32) : Bool :=
  match mark with
  | none => false
  | some m => decide (0 < (m - time).toNat ∧ (m - time).toNat < 2 ^ 31)

/-- The scaled value of a raw value (R65). -/
def RouteEntry.scale (e : RouteEntry) (raw : Int) : Int :=
  roundHalfAway (raw * e.multiplier + e.offset * e.divisor) e.divisor

/-- A value clamped to the range of a target (R66). -/
def clampTarget (target : RouteTarget) (v : Int) : Int :=
  clampInt (quantityRange (targetQuantity target)).1 (quantityRange (targetQuantity target)).2 v

/-- An accepted candidate's value is clamped, tallied CLAMPED when that changes it, and delivered; one that the board does not
apply is tallied SHADOWED (R66, R67). The answer says whether it was applied. -/
def State.deliverValue (s : State) (target : RouteTarget) (v : Int) : Bool × State :=
  let c := clampTarget target v
  let t := if c = v then s else s.bumpTally .clamped
  let d := t.deliverFrame target c
  if d.1 then (true, d.2) else (false, d.2.bumpTally .shadowed)

/-- One candidate, the entry at an index of the route table, is handled (R62 to R67). The answer says whether a sample was
applied. -/
def State.handleCandidate (s : State) (f : Frame) (i : Nat) : Bool × State :=
  match s.intake.routes[i]? with
  | none => (false, s)
  | some r =>
    if !r.entry.inFrame f then (false, s.bumpTally .shortFrame)
    else if r.entry.notAvailable f then (false, s.bumpTally .na)
    else if isLate r.mark f.time then (false, s.bumpTally .late)
    else
      (s.withIntake { s.intake with routes := s.intake.routes.set i ⟨r.entry, some f.time⟩ }).deliverValue
        r.entry.target (r.entry.scale (r.entry.raw f))

/-! ### FEED_CANDIDATE (R61, R69) -/

/-- The indices of the entries whose tag a frame carries, in the order of the table (R61 step 3). -/
def matchingRoutes (routes : List Route) (tag : BitVec 29) : List Nat :=
  routes.zipIdx.filterMap (fun e => if e.1.entry.tag = tag then some e.2 else none)

/-- The FEED in progress is set. -/
def State.setFeed (s : State) (w : Option FeedWork) : State := s.withIntake { s.intake with feed := w }

/-- The FEED ends with its last record: DONE with the count of samples applied (R69). -/
def State.completeFeed (s : State) (applied : Nat) : State :=
  match s.dispatched .feed with
  | some p => (s.setFeed none).returnSlip p ⟨.done, applied, 0⟩
  | none => s.setFeed none

/-- After a record or candidate: the FEED goes on with what is left, or ends. -/
def State.feedOn (s : State) (w : FeedWork) : State :=
  if w.inHand = none ∧ w.total ≤ w.next then s.completeFeed w.applied else s.setFeed (some w)

/-- The first of the candidates left of a record is handled. -/
def State.feedNext (s : State) (w : FeedWork) (f : Frame) : List Nat → State
  | [] => s.feedOn { w with inHand := none }
  | i :: left =>
    let d := s.handleCandidate f i
    d.2.feedOn { w with
      inHand := if left = [] then none else some ⟨f, left⟩
      applied := if d.1 then w.applied + 1 else w.applied }

/-- The next record is read and TAKEN; with no matching entry it is UNROUTED and finished, else its first candidate is
handled (R61). -/
def State.feedRecord (s : State) (w : FeedWork) : State :=
  let f := readFrame s.port.mem (w.base + 16 * w.next)
  let t := s.bumpTally .taken
  let w' := { w with next := w.next + 1 }
  match matchingRoutes s.intake.routes f.tag with
  | [] => (t.bumpTally .unrouted).feedOn w'
  | i :: left => t.feedNext w' f (i :: left)

/-- The next record, or the next candidate of the record in hand, of the FEED in progress. -/
def feedCandidate (s : State) : State :=
  match s.intake.feed with
  | none => s
  | some w => match w.inHand with
    | some h => s.feedNext w h.frame h.left
    | none => if w.next < w.total then s.feedRecord w else s.completeFeed w.applied

/-- FEED_CANDIDATE. -/
def execFeedCandidate (s : State) : Host.Outcome State Fault Refusal := s.act feedCandidate

end Sys2Proof.Machine
end

