-- ==== Sys2Proof/Machine/Components.lean ====
section
/-! DEFINITION. FIT, UNFIT and PEEK (R12 to R19), with what FIT and UNFIT change in the depot bucket's damage list (R138). -/

namespace Sys2Proof.Machine

/-! ### The bucket's damage list (R130, R138) -/

/-- An entry with delta 0 for a component in a slot. -/
def damageEntry (slot : Nat) (c : Component) : DamageEntry := ⟨slot, c.cls, c.position, c.serial, 0, false⟩

/-- One entry with delta 0 for each GEARBOX and AXLE slot FITTED now, in ascending slot number (R130). -/
def State.liveEntries (s : State) : List DamageEntry :=
  (s.fittedWhere (fun c => c.cls.hasResidue)).map (fun e => damageEntry e.1 e.2)

/-- The list without its oldest released entry, the first in list order (notes/assumptions/26.md). -/
def dropReleased : List DamageEntry → List DamageEntry
  | [] => []
  | e :: rest => if e.released then rest else e :: dropReleased rest

/-- A live entry is appended; from a list of eight the oldest released entry is first removed (R138). -/
def appendEntry (entries : List DamageEntry) (e : DamageEntry) : List DamageEntry :=
  (if entries.length < Config.bucketLimit then entries else dropReleased entries) ++ [e]

/-- The live entry of a slot is marked released (R138). -/
def releaseEntry (slot : Nat) (entries : List DamageEntry) : List DamageEntry :=
  entries.map (fun e => if e.slot = slot then { e with released := true } else e)

/-- The bucket's damage list changed by `f`. -/
def State.mapBucket (s : State) (f : List DamageEntry → List DamageEntry) : State :=
  s.withHires { s.hires with bucket := { s.hires.bucket with entries := f s.hires.bucket.entries } }

/-- An accepted FIT or UNFIT of a GEARBOX or AXLE is handed to the register; of another class it leaves the list (R138). -/
def State.handToBucket (s : State) (cls : ComponentClass) (f : List DamageEntry → List DamageEntry) : State :=
  if cls.hasResidue then s.mapBucket f else s

/-! ### FIT (R12 to R15) -/

/-- A FIT in-buffer checked by R12 to R14, with the slots as they stand: the class, or the refusal. -/
def checkFit (s : State) (p : Slip) : Except Result ComponentClass :=
  let m := s.port.mem
  let a := p.inOffset
  if s.depot.state ≠ .depot then .error (refusal .notInDepot)
  else if p.inLength < 20 then .error (refusal .badLength)
  else match classOfCode (memGet m a).toNat with
    | none => .error (refusal .badSlotSpec)
    | some cls =>
      if !headerGood m a cls then .error (refusal .badSlotSpec)
      else match findSlot s.slots cls (memGet m (a + 1)).toNat with
        | some slot => .error ⟨.slotTaken, slot, 0⟩
        | none =>
          if p.inLength = 20 then .ok cls
          else match importRefusal m a p.inLength cls with
            | some status => .error (refusal status)
            | none => .ok cls

/-- The record an accepted FIT makes (R15). -/
def State.fittedRecord (s : State) (p : Slip) (cls : ComponentClass) : Component where
  position := (memGet s.port.mem (p.inOffset + 1)).toNat
  serial := readSerial s.port.mem p.inOffset
  fittedAt := s.now
  fitCount := if p.inLength = 20 then 1 else memLe s.port.mem 4 (p.inOffset + 28) + 1
  body := if p.inLength = 20 then freshBody cls else readBody s.port.mem p.inOffset cls

/-- The lowest FREE slot (R15). -/
def freeSlot (slots : List (Option Component)) : Option Nat := slots.findIdx? (fun o => o.isNone)

/-- A record placed in a slot, and its live entry in the bucket (R15). -/
def State.place (s : State) (slot : Nat) (c : Component) : State :=
  (s.withSlots (s.slots.set slot (some c))).handToBucket c.cls (fun l => appendEntry l (damageEntry slot c))

/-- FIT at the table. With the eight pairs of R1 distinct a FREE slot exists once check 4 has passed; with none the slip is
refused as R1 says of a full table (notes/assumptions/9.md). -/
def fitWork (p : Slip) (s : State) : Verdict × State :=
  match checkFit s p with
  | .error r => (.back r, s)
  | .ok cls => match freeSlot s.slots with
    | some slot => (.wait slot 0, s.place slot (s.fittedRecord p cls))
    | none => (.back (refusal .slotTaken), s)

/-- FIT. -/
def execFit (s : State) : Host.Outcome State Fault Refusal := s.act (fun s => s.carryOut .fit fitWork)

/-! ### Slots named by a selector -/

/-- The FITTED slot a selector names, with its record (R16 check 4). -/
def State.findSpec (s : State) (spec : SlotSpec) : Option (Nat × Component) :=
  match spec with
  | .byNumber n => (s.slotAt n).map (fun c => (n, c))
  | .byPlace cls position => (findSlot s.slots cls position).bind (fun n => (s.slotAt n).map (fun c => (n, c)))

/-! ### UNFIT (R16, R17) -/

/-- The export size of R16 check 5. -/
def exportSize (c : Component) (retire : Bool) : Nat := if retire then c.cls.baseLength else c.exportLength

/-- An UNFIT slip checked by R16: the slot and its record, or the refusal. -/
def checkUnfit (s : State) (p : Slip) : Except Result (Nat × Component) :=
  let m := s.port.mem
  let a := p.inOffset
  if s.depot.state ≠ .depot then .error (refusal .notInDepot)
  else if p.inLength ≠ 4 then .error (refusal .badLength)
  else match readSlotSpec m a (memGet m a).toNat with
    | none => .error (refusal .badSlotSpec)
    | some spec => match s.findSpec spec with
      | none => .error (refusal .noSuchSlot)
      | some found =>
        if p.outLength < exportSize found.2 p.retire then .error (refusal .shortSpace) else .ok found

/-- The close-out of a retirement (R17 step 1): a class without a residue has none. -/
def State.retireSlot (s : State) (slot : Nat) (c : Component) : State :=
  if c.cls.hasResidue then s.closeOutSlot slot (s.tune.cycleOf c.cls) else s

/-- Steps 2 to 4 of R17: the export of the record as it now stands, the slot FREE, its entry released. -/
def State.takeOut (s : State) (p : Slip) (slot : Nat) (c : Component) : State :=
  let exported := s.store p.outOffset (c.exportBytes p.retire)
  (exported.withSlots (exported.slots.set slot none)).handToBucket c.cls (releaseEntry slot)

/-- The FITTED slot an UNFIT slip names, once checks 1 to 4 of R16 have passed. -/
def State.unfitSlot (s : State) (p : Slip) : Option Nat :=
  if s.depot.state ≠ .depot then none
  else if p.inLength ≠ 4 then none
  else ((readSlotSpec s.port.mem p.inOffset (memGet s.port.mem p.inOffset).toNat).bind s.findSpec).map (·.1)

/-- The state in which an UNFIT is judged by check 5 and, once accepted, carried out: the samples handed on to the slot it names
have been taken there, since a FEED ahead of it in the ring has run to its end (09, 9.4, notes/assumptions/7.md). Outside RUN they have
been taken already, before the part left it (notes/assumptions/33.md). -/
def State.settleForUnfit (s : State) (p : Slip) : State :=
  match s.unfitSlot p with
  | some slot => s.takeWaiting (fun x => decide (x.slot = slot))
  | none => s

/-- An accepted UNFIT of a slot for which no sample waits (R17). -/
def State.unfit (s : State) (p : Slip) (slot : Nat) (c : Component) : Verdict × State :=
  let t := if p.retire then s.retireSlot slot c else s
  let last := (t.slotAt slot).getD c
  (.wait slot last.exportLength, t.takeOut p slot last)

/-- UNFIT at the table (R16, R17). A refused one changes no state, so the samples that wait for the slot go on waiting (R16). -/
def unfitWork (p : Slip) (s : State) : Verdict × State :=
  match checkUnfit (s.settleForUnfit p) p with
  | .error r => (.back r, s)
  | .ok (slot, c) => (s.settleForUnfit p).unfit p slot c

/-- UNFIT. -/
def execUnfit (s : State) : Host.Outcome State Fault Refusal := s.act (fun s => s.carryOut .unfit unfitWork)

/-! ### PEEK (R19, R36, R139) -/

/-- What a PEEK target copies, with its detail: the export of a slot, a hire or bucket record dated now, the eight quantity
records; or the refusal of R19 check 3. -/
def State.peekCopy (s : State) (target : PeekTarget) : Except Status (List Byte × Nat) :=
  match target with
  | .slot spec => match s.findSpec spec with
    | some found => .ok (found.2.exportBytes false, found.1)
    | none => .error .noSuchSlot
  | .openHire => match s.hires.hire with
    | some h => .ok (h.bytes s.now, h.entries.length)
    | none => .error .noHire
  | .bucket => .ok (s.hires.bucket.bytes s.now, s.hires.bucket.entries.length)
  | .quantities => .ok (s.board.bytes, 0)

/-- PEEK (R19): the copy changes nothing but the out-buffer. -/
def peekWork (p : Slip) (s : State) : Verdict × State :=
  if p.inLength ≠ 4 then (.back (refusal .badLength), s)
  else match readPeekTarget s.port.mem p.inOffset with
    | none => (.back (refusal .badSlotSpec), s)
    | some target => match s.peekCopy target with
      | .error status => (.back (refusal status), s)
      | .ok (bytes, detail) =>
        if p.outLength < bytes.length then (.back (refusal .shortSpace), s)
        else (.back ⟨.done, detail, bytes.length⟩, s.store p.outOffset bytes)

/-- PEEK. -/
def execPeek (s : State) : Host.Outcome State Fault Refusal := s.act (fun s => s.carryOut .peek peekWork)

end Sys2Proof.Machine
end

