-- ==== Sys2Proof/Machine/Hires.lean ====
section
/-! DEFINITION. HIRE-OPEN and HIRE-CLOSE (R133 to R137). -/

namespace Sys2Proof.Machine

/-! ### HIRE-OPEN -/

/-- The refusal of a HIRE-OPEN by R133, if there is one. -/
def checkHireOpen (s : State) (p : Slip) : Option Result :=
  if p.inLength ≠ 4 then some (refusal .badLength)
  else if s.depot.state = .depot then some (refusal .inDepot)
  else match s.hires.hire with
    | some h => some ⟨.hireOpenAlready, h.number % 65536, 0⟩
    | none =>
      if p.outLength < registerLength s.hires.bucket.entries.length then some (refusal .shortSpace) else none

/-- The register after an accepted HIRE-OPEN (R134 steps 2 and 3): the bucket cleared, the hire open. -/
def State.openedRegister (s : State) (number : Nat) : HireRegister :=
  { s.hires with
    bucket := ⟨s.now, .zero, s.liveEntries⟩
    hire := some ⟨number, s.now, .zero, s.liveEntries⟩ }

/-- HIRE-OPEN at the register (R133, R134). A sample that still waits at its slot lands in the record current when it is taken
(R131, notes/assumptions/7.md). -/
def hireOpenWork (p : Slip) (s : State) : Verdict × State :=
  match checkHireOpen s p with
  | some r => (.back r, s)
  | none =>
    let number := memLe s.port.mem 4 p.inOffset
    let t := s.store p.outOffset (s.hires.bucket.bytes s.now)
    (.wait s.liveEntries.length (registerLength s.hires.bucket.entries.length),
      (t.withHires (s.openedRegister number)).publishHire)

/-- HIRE_OPEN. -/
def execHireOpen (s : State) : Host.Outcome State Fault Refusal := s.act (fun s => s.carryOut .hireOpen hireOpenWork)

/-! ### HIRE-CLOSE -/

/-- A HIRE-CLOSE slip checked by R135: the hire to be closed, or the refusal. -/
def checkHireClose (s : State) (p : Slip) : Except Result Hire :=
  if p.inLength ≠ 0 then .error (refusal .badLength)
  else match s.hires.hire with
    | none => .error (refusal .noHire)
    | some h => if p.outLength < registerLength h.entries.length then .error (refusal .shortSpace) else .ok h

/-- HIRE-CLOSE at the register (R135, R136). A sample that still waits at its slot lands in the bucket (R131,
notes/assumptions/7.md). -/
def hireCloseWork (p : Slip) (s : State) : Verdict × State :=
  match checkHireClose s p with
  | .error r => (.back r, s)
  | .ok h =>
    let t := s.store p.outOffset (h.bytes s.now)
    (.wait h.entries.length (registerLength h.entries.length),
      (t.withHires { s.hires with hire := none, lastClosed := h.number }).publishHire)

/-- HIRE_CLOSE. -/
def execHireClose (s : State) : Host.Outcome State Fault Refusal := s.act (fun s => s.carryOut .hireClose hireCloseWork)

end Sys2Proof.Machine
end

