-- ==== Sys2Proof/Machine/Depot.lean ====
section
/-! DEFINITION. Depot control (chapter 10): DEPOT-IN with the wrong-code count and lockout, DEPOT-OUT, TUNE, and the depot
timer. -/

namespace Sys2Proof.Machine

/-! ### DEPOT-IN (R155, R156) -/

/-- The start monitor is in CRANKING, CATCHING or RUNNING (R155 check 4). -/
def StartState.turning : StartState → Bool
  | .off => false
  | .armed => false
  | .cranking => true
  | .catching => true
  | .running => true

/-- The refusal of a DEPOT-IN by checks 1 to 5 of R155, if there is one. -/
def checkDepotIn (s : State) (p : Slip) : Option Result :=
  if p.inLength ≠ 4 then some (refusal .badLength)
  else if s.depot.lockout then some (refusal .lockedOut)
  else if s.depot.state = .depot then some (refusal .depotAlready)
  else if s.monitor.state.turning then some (refusal .engineRunning)
  else s.hires.hire.map (fun h => ⟨.hireOpenAlready, h.number % 65536, 0⟩)

/-- A wrong code is counted; the third sets the lockout with the DEPOT notice (R156). -/
def State.countWrongCode (s : State) : State :=
  let count := s.depot.wrongCodes + 1
  if 3 ≤ count then
    ((s.withDepot { s.depot with wrongCodes := count, lockout := true }).setNotice .depot).publishDepot
  else s.withDepot { s.depot with wrongCodes := count }

/-- DEPOT is entered (R155): 30 minutes on the depot timer. -/
def State.enterDepot (s : State) : State := (s.withDepot ⟨.depot, 0, s.depot.lockout, [], .running 1800000⟩).publishDepot

/-- DEPOT-IN at depot control. -/
def depotInWork (p : Slip) (s : State) : Verdict × State :=
  match checkDepotIn s p with
  | some r => (.back r, s)
  | none =>
    if memLe s.port.mem 4 p.inOffset ≠ s.tune.code then
      (.back ⟨.wrongCode, s.depot.wrongCodes + 1, 0⟩, s.countWrongCode)
    else (.back ⟨.done, 0, 0⟩, s.enterDepot)

/-- DEPOT_IN. -/
def execDepotIn (s : State) : Host.Outcome State Fault Refusal := s.act (fun s => s.carryOut .depotIn depotInWork)

/-! ### DEPOT-OUT (R158) and the depot timer (R157) -/

/-- DEPOT-OUT at depot control. -/
def depotOutWork (p : Slip) (s : State) : Verdict × State :=
  if p.inLength ≠ 0 then (.back (refusal .badLength), s)
  else if s.depot.state ≠ .depot then (.back (refusal .notInDepot), s)
  else (.wait 0 0, (s.withDepot { s.depot with state := .normal, timer := .stopped }).publishDepot)

/-- DEPOT_OUT. -/
def execDepotOut (s : State) : Host.Outcome State Fault Refusal := s.act (fun s => s.carryOut .depotOut depotOutWork)

/-- DEPOT_TIMER_EXPIRY (R157), in every power state. -/
def execDepotTimerExpiry (s : State) : Host.Outcome State Fault Refusal :=
  s.act (fun s => if s.depot.timer.isRunning then s.depotAutoLeave else s)

/-! ### TUNE (R159 to R161) -/

/-- A TUNE slip checked by R159: the section, the tune set it makes and the number of fields clamping changed; or the
refusal. -/
def checkTune (s : State) (p : Slip) : Except Result (TuneSection × TuneSet × Nat) :=
  if s.depot.state ≠ .depot then .error (refusal .notInDepot)
  else if p.inLength < 4 then .error (refusal .badTune)
  else match sectionOfCode (memGet s.port.mem p.inOffset).toNat with
    | none => .error (refusal .badTune)
    | some sec =>
      if s.depot.tuned.contains sec then .error (refusal .alreadyTuned)
      else if p.inLength ≠ sec.length then .error (refusal .badTune)
      else match readSection s.tune s.port.mem p.inOffset sec with
        | none => .error (refusal .badTune)
        | some (tune, changed) => .ok (sec, tune, changed)

/-- The gate or the bin width differs (R126). -/
def CycleTune.regates (old new : CycleTune) : Bool := decide (old.gate ≠ new.gate ∨ old.width ≠ new.width)

/-- The samples handed on to slots of the class a section tunes are taken before it changes: a FEED before the TUNE is fed under the
old section and is part of the residue closed out (R109, R126, R127, notes/assumptions/7.md). Outside RUN they have been taken already,
before the part left it (notes/assumptions/33.md). -/
def State.settleForTune (s : State) (sec : TuneSection) : State :=
  match sec with
  | .gearbox => s.takeWaiting (s.waitsAt .gearbox)
  | .axle => s.takeWaiting (s.waitsAt .axle)
  | _ => s

/-- Step 1 of R161: close-out under the old parameters when the gate or bin width of the class changes (R126). -/
def State.tuneCloseOut (s : State) (sec : TuneSection) (new : TuneSet) : State :=
  match sec with
  | .gearbox => if s.tune.gearbox.cycle.regates new.gearbox.cycle then s.closeOutClass .gearbox s.tune.gearbox.cycle else s
  | .axle => if s.tune.axle.regates new.axle then s.closeOutClass .axle s.tune.axle else s
  | _ => s

/-- Step 4 of R161: the SLIPPING substitution (R21) and the lowered fault limit (R49). -/
def State.tuneEffects (s : State) (sec : TuneSection) (old : TuneSet) : State :=
  match sec with
  | .gearbox => s.substituteSlipping
  | .pulse => if s.tune.pulse.limit < old.pulse.limit then s.lowerLimit s.tune.pulse.limit else s
  | _ => s

/-- The four steps of an accepted TUNE (R161). -/
def State.applyTune (s : State) (sec : TuneSection) (new : TuneSet) : State :=
  let t := ((s.settleForTune sec).tuneCloseOut sec new).withTune new
  (t.withDepot { t.depot with tuned := sec :: t.depot.tuned }).tuneEffects sec s.tune

/-- TUNE at depot control. -/
def tuneWork (p : Slip) (s : State) : Verdict × State :=
  match checkTune s p with
  | .error r => (.back r, s)
  | .ok (sec, tune, changed) =>
    (.back ⟨if changed = 0 then .done else .doneClamped, changed, 0⟩, s.applyTune sec tune)

/-- TUNE. -/
def execTune (s : State) : Host.Outcome State Fault Refusal := s.act (fun s => s.carryOut .tune tuneWork)

end Sys2Proof.Machine
end

