-- ==== Sys2Proof/Machine/Completion.lean ====
section
/-! DEFINITION. The end of a page write (R170, R171): completion, the retry on the next page, abandonment; and the commands
that are the journal's timers. -/

namespace Sys2Proof.Machine

/-- The page and its sequence become the newest, and are published with the recorder time of its snapshot (R168, R170). -/
def State.pageNewest (s : State) (w : Writing) : State :=
  (s.withJournal { s.journal with
    pages := s.journal.pages.set w.page (.whole w.sequence w.staging)
    newestPage := some w.page
    newestSequence := w.sequence
    lastTime := w.staging.recorderTime
    writing := none }).publishJournal

/-- A verified page completes the checkpoint (R170): CHECKPOINT is set, an attached slip is released, and another pending
checkpoint starts. -/
def State.completeCheckpoint (s : State) (w : Writing) : State :=
  let t := (s.pageNewest w).setNotice .checkpoint
  let u := if t.journal.waiting = some true then t.releaseSlip w.sequence else t
  if u.journal.another ∧ u.journal.writing.isNone ∧ u.supply.power ≠ .hold then u.startCheckpoint else u

/-- A page that fails verification (R171): TORN, and once the same snapshot on the next page with the next sequence. After the
last sequence there is none to retry with (notes/assumptions/10.md). -/
def State.failPage (s : State) (w : Writing) : State :=
  if w.secondTry ∨ lastSequence ≤ w.sequence then s.abandonWithRetry
  else
    (s.withJournal (s.journal.beginPage ⟨nextPage w.page, w.sequence + 1, true, w.staging⟩)).setNotice .torn

/-- CHECKPOINT_WRITE_DONE (R170, R171). -/
def execCheckpointWriteDone (verified : Bool) (s : State) : Host.Outcome State Fault Refusal :=
  s.act (fun s => match s.journal.writing with
    | some w => if verified then s.completeCheckpoint w else s.failPage w
    | none => s)

/-- PERIOD_TIMER_EXPIRY (R169). -/
def execPeriodTimerExpiry (s : State) : Host.Outcome State Fault Refusal := s.act periodTimerExpiry

/-- RETRY_TIMER_EXPIRY (R171). -/
def execRetryTimerExpiry (s : State) : Host.Outcome State Fault Refusal := s.act retryTimerExpiry

end Sys2Proof.Machine
end

