-- ==== Sys2Proof/Machine/Reset.lean ====
section
/-! DEFINITION. The pin reset (R153), the loss of supply (R171) and power-on with the restore (R172). -/

namespace Sys2Proof.Machine

/-! ### The pin reset (R153) -/

/-- RESETn goes low: the port and the scanner are reset, and every held slip, the FEED in progress and the journal's waiting
slip are discarded. -/
def State.pinReset (s : State) : State :=
  { s with
    resetLow := true
    port := ⟨[], 16, 0, 0, s.port.cause⟩
    scanner := ⟨.idle, 0, false, s.scanner.selfPoll, none⟩
    intake := { s.intake with feed := none }
    journal := { s.journal with waiting := none } }

/-- PIN_RESET: the fall of RESETn; with RESETn low already nothing happens. -/
def execPinReset (s : State) : Host.Outcome State Fault Refusal := s.act (fun s => if s.resetLow then s else s.pinReset)

/-- RESETn goes high: every control block field is rewritten, with the restart cause PIN. -/
def State.pinRelease (s : State) : State :=
  ((s.withResetLow false).withPort { s.port with cause := .pin }).publishAll

/-- PIN_RESET_RELEASE: the rise of RESETn. -/
def execPinResetRelease (s : State) : Host.Outcome State Fault Refusal :=
  s.act (fun s => if s.resetLow then s.pinRelease else s)

/-! ### The restore (R172) -/

/-- A valid page that the restore may take: its page, sequence and content. -/
structure ValidPage where
  page : Nat
  sequence : Nat
  content : Snapshot
deriving DecidableEq, Repr

/-- The valid pages (R168): a matching check word and a nonzero sequence. -/
def validPages (pages : List Page) : List ValidPage :=
  pages.zipIdx.filterMap (fun e => match e.1 with
    | .whole n c => if n = 0 then none else some ⟨e.2, n, c⟩
    | _ => none)

/-- The one of two with the higher sequence. -/
def newerPage (best : Option ValidPage) (v : ValidPage) : Option ValidPage :=
  match best with
  | some b => if b.sequence < v.sequence then some v else some b
  | none => some v

/-- The valid page with the highest sequence (R172). -/
def newestValid (pages : List Page) : Option ValidPage := (validPages pages).foldl newerPage none

/-- A page that fails its check with a sequence field above `n` (R172). -/
def tornAbove (pages : List Page) (n : Nat) : Bool :=
  pages.any (fun p => match p with
    | .torn k => decide (n < k)
    | _ => false)

/-- The restore outcome (R172). -/
def restoreOutcome (pages : List Page) : RestoreOutcome :=
  match newestValid pages with
  | none => .blank
  | some v => if tornAbove pages v.sequence then .tornSkipped else .restored

/-- The factory state of a BLANK restore (R172). -/
def Snapshot.factory : Snapshot := ⟨0, List.replicate Config.slotCount none, none, .factory, [], .default⟩

/-- What the restore gives the part. -/
def restoredContent (pages : List Page) : Snapshot :=
  match newestValid pages with
  | none => .factory
  | some v => v.content

/-- The journal as the restore leaves it (R172). -/
def restoredJournal (pages : List Page) : Journal where
  pages := pages
  newestPage := (newestValid pages).map (·.page)
  newestSequence := ((newestValid pages).map (·.sequence)).getD 0
  lastTime := (restoredContent pages).recorderTime
  writing := none
  another := false
  period := .stopped
  retry := .stopped
  waiting := none
  outcome := restoreOutcome pages

/-! ### Power -/

/-- The part without supply: all volatile state is gone, the pages stay, and the page being written stays torn (R171). Its
volatile fields stand as `State.reset` has them, the exchange memory empty, and nothing reads them
(notes/assumptions/17.md). -/
def State.unpowered (s : State) : State :=
  { State.reset with
    pending := s.pending
    powered := false
    port := ⟨[], 16, 0, 0, .powerOn⟩
    journal := { Journal.factory with pages := s.journal.pages }
    draws := s.draws }

/-- POWER_LOSS (R171). -/
def execPowerLoss (s : State) : Host.Outcome State Fault Refusal := s.act State.unpowered

/-- The part as the restore and the power-on values leave it, before the control block is written. -/
def State.restored (s : State) (lines : Lines) (mv : Nat) : State :=
  let pages := s.journal.pages
  let c := restoredContent pages
  let t : State :=
    { State.reset with
      pending := s.pending
      port := ⟨[], 16, 0, 0, .powerOn⟩
      lines := lines
      intake := { State.reset.intake with routes := c.routes.map (fun e => ⟨e, none⟩) }
      slots := c.slots
      hires := ⟨c.hire, c.bucket, 0⟩
      tune := c.tune
      supply := { State.reset.supply with recorderTime := c.recorderTime, battery := mv }
      journal := restoredJournal pages
      draws := s.draws }
  t.withSupply { t.supply with
    dipped := decide (mv < t.dipLevel)
    filter := if mv < t.warningLevel then .running 0 else .stopped }

/-- Power-on (R172, R142, R165): the restore, TORN by its outcome, every control block field, and HOLD at once with the
battery below the stop level. -/
def State.powerUp (s : State) (lines : Lines) (mv : Nat) : State :=
  let t := s.restored lines mv
  let u := (if t.journal.outcome = .restored then t else t.setNotice .torn).publishAll
  if mv < u.stopLevel then u.enterHold else u

/-- POWER_ON (R172): with the raw line levels (R39) and the battery (R162). A part that has supply already is unchanged.
RESETn is taken as high (notes/assumptions/20.md). -/
def execPowerOn (ign crank clutch reverse : Bool) (mv : Nat) (s : State) : Host.Outcome State Fault Refusal :=
  if s.powered then .next s
  else .next (s.powerUp ⟨.powerOn ign, .powerOn crank, .powerOn clutch, .powerOn reverse⟩ mv)

end Sys2Proof.Machine
end

