-- ==== Sys2Proof/Machine/Dispatch.lean ====
section
/-! DEFINITION. One arm per command: the meaning each command calls. -/

namespace Sys2Proof.Machine

/-- A command's effect on everything but the queue. -/
def exec (i : Instr) (s : State) : Host.Outcome State Fault Refusal :=
  match i with
  | .feed => Sys2Proof.Machine.execFeed s
  | .route => Sys2Proof.Machine.execRoute s
  | .fit => Sys2Proof.Machine.execFit s
  | .unfit => Sys2Proof.Machine.execUnfit s
  | .peek => Sys2Proof.Machine.execPeek s
  | .hireOpen => Sys2Proof.Machine.execHireOpen s
  | .hireClose => Sys2Proof.Machine.execHireClose s
  | .depotIn => Sys2Proof.Machine.execDepotIn s
  | .depotOut => Sys2Proof.Machine.execDepotOut s
  | .tune => Sys2Proof.Machine.execTune s
  | .save => Sys2Proof.Machine.execSave s
  | .nop => Sys2Proof.Machine.execNop s
  | .nudge => Sys2Proof.Machine.execNudge s
  | .selfPollExpiry => Sys2Proof.Machine.execSelfPollExpiry s
  | .ringWrite data => Sys2Proof.Machine.execRingWrite data s
  | .noticeWrite data => Sys2Proof.Machine.execNoticeWrite data s
  | .noticeMaskWrite data => Sys2Proof.Machine.execNoticeMaskWrite data s
  | .registerWriteIgnored op addr data => Sys2Proof.Machine.execRegisterWriteIgnored op addr data s
  | .exchangeMemoryWrite addr data => Sys2Proof.Machine.execExchangeMemoryWrite addr data s
  | .lineRawChange line level => Sys2Proof.Machine.execLineRawChange line level s
  | .debounceExpiry line => Sys2Proof.Machine.execDebounceExpiry line s
  | .startingLevel line => Sys2Proof.Machine.execStartingLevel line s
  | .pulseEdge ch => Sys2Proof.Machine.execPulseEdge ch s
  | .windowEnd ch => Sys2Proof.Machine.execWindowEnd ch s
  | .sensorSupplyShort => Sys2Proof.Machine.execSensorSupplyShort s
  | .offTimerExpiry => Sys2Proof.Machine.execOffTimerExpiry s
  | .trialTimerExpiry => Sys2Proof.Machine.execTrialTimerExpiry s
  | .freshTimerExpiry q => Sys2Proof.Machine.execFreshTimerExpiry q s
  | .heldTimerExpiry q => Sys2Proof.Machine.execHeldTimerExpiry q s
  | .quantumExpiry => Sys2Proof.Machine.execQuantumExpiry s
  | .longCrank => Sys2Proof.Machine.execLongCrank s
  | .catchTimerExpiry => Sys2Proof.Machine.execCatchTimerExpiry s
  | .stopTimerExpiry => Sys2Proof.Machine.execStopTimerExpiry s
  | .batteryBelowCrankDip mv => Sys2Proof.Machine.execBatteryBelowCrankDip mv s
  | .batteryAboveDipRecovery mv => Sys2Proof.Machine.execBatteryAboveDipRecovery mv s
  | .batteryBelowWarning mv => Sys2Proof.Machine.execBatteryBelowWarning mv s
  | .batteryAboveWarning mv => Sys2Proof.Machine.execBatteryAboveWarning mv s
  | .warningFilterExpiry => Sys2Proof.Machine.execWarningFilterExpiry s
  | .rearmTimerExpiry => Sys2Proof.Machine.execRearmTimerExpiry s
  | .batteryBelowStop mv => Sys2Proof.Machine.execBatteryBelowStop mv s
  | .batteryAboveRestart mv => Sys2Proof.Machine.execBatteryAboveRestart mv s
  | .restartDwellExpiry => Sys2Proof.Machine.execRestartDwellExpiry s
  | .dozeTimerExpiry => Sys2Proof.Machine.execDozeTimerExpiry s
  | .recorderTimeAdvance => Sys2Proof.Machine.execRecorderTimeAdvance s
  | .depotTimerExpiry => Sys2Proof.Machine.execDepotTimerExpiry s
  | .periodTimerExpiry => Sys2Proof.Machine.execPeriodTimerExpiry s
  | .retryTimerExpiry => Sys2Proof.Machine.execRetryTimerExpiry s
  | .checkpointWriteDone verified => Sys2Proof.Machine.execCheckpointWriteDone verified s
  | .pinReset => Sys2Proof.Machine.execPinReset s
  | .pinResetRelease => Sys2Proof.Machine.execPinResetRelease s
  | .powerOn ign crank clutch reverse mv => Sys2Proof.Machine.execPowerOn ign crank clutch reverse mv s
  | .powerLoss => Sys2Proof.Machine.execPowerLoss s
  | .feedCandidate => Sys2Proof.Machine.execFeedCandidate s
  | .sampleAtSlot slot => Sys2Proof.Machine.execSampleAtSlot slot s

end Sys2Proof.Machine
end

