-- ==== Sys2Proof/Safety.lean ====
section
/-! DEFINITION. What a state of the part keeps, in the terms the statements use: the laws of the spec's chapters, and what
"unchanged but for" says. -/

namespace Sys2Proof.Machine

/-! ### Readiness and frames -/

/-- The part has supply and RESETn is high: the port takes transactions (R140, R153). -/
abbrev State.live (s : State) : Prop := s.powered = true ∧ s.resetLow = false

/-- The part has supply, and the scanner holds a slip of a kind, with good references, that waits for its command. -/
abbrev State.holdsSlip (s : State) (kind : SlipKind) (p : Slip) : Prop :=
  s.powered = true ∧ s.dispatched kind = some p ∧ p.referencesGood = true

/-- Every byte of exchange memory at an address for which `changed` does not hold reads as before. -/
def bytesKept (s t : State) (changed : Nat → Prop) : Prop :=
  ∀ a, a < Config.memorySize → ¬ changed a → t.byteAt a = s.byteAt a

/-- The bytes of the control block's scanner state and cursor (12.3). -/
def scannerBytes (a : Nat) : Prop := a = 0x09 ∨ a = 0x0A

/-- The address lies in the `n` bytes from `lo` on. -/
def within (lo n a : Nat) : Prop := lo ≤ a ∧ a < lo + n

/-- The FITTED slot of a class at position 1, if there is one, holds its record with its body changed by `f`; every other slot is as
before (R7). -/
def slotGains (s t : State) (cls : ComponentClass) (f : Body → Body) : Prop :=
  ∀ i, t.slotAt i = (s.slotAt i).map (fun c => if findSlot s.slots cls 1 = some i then { c with body := f c.body } else c)

/-- The counts of the open hire, or with none open of the bucket, are changed by `f`, and nothing else of the register (R131). -/
def registerGains (s t : State) (f : Counts → Counts) : Prop :=
  (∀ h, s.hires.hire = some h → t.hires = { s.hires with hire := some { h with counts := f h.counts } })
    ∧ (s.hires.hire = none →
      t.hires = { s.hires with bucket := { s.hires.bucket with counts := f s.hires.bucket.counts } })

/-- The command that carries out a kind of slip. -/
def commandOf : SlipKind → Instr
  | .feed => .feed
  | .route => .route
  | .fit => .fit
  | .unfit => .unfit
  | .peek => .peek
  | .hireOpen => .hireOpen
  | .hireClose => .hireClose
  | .depotIn => .depotIn
  | .depotOut => .depotOut
  | .tune => .tune
  | .save => .save
  | .nop => .nop

/-- The journal can start a checkpoint at once: IDLE, a sequence left, and the part not in HOLD (R169, R171). -/
abbrev State.journalFree (s : State) : Prop :=
  s.journal.writing = none ∧ s.supply.power ≠ .hold ∧ s.journal.newestSequence < lastSequence

/-- Whether the slip at a ring index reads as handed over. -/
def State.ownedByDevice (s : State) (index : Nat) : Bool := decide (s.byteAt (slipAddress index) = 0xA5)

/-- A checkpoint with a snapshot of `s` has started (R170): the page after the newest, the next sequence, the period restarted,
nothing else pending, the retry timer stopped, a waiting slip attached. -/
def Journal.startedFrom (s : State) (j : Journal) : Prop :=
  j.writing = some ⟨s.journal.target, s.journal.newestSequence + 1, false, s.snapshot⟩
    ∧ j.another = false ∧ j.retry = .stopped ∧ j.period = s.restartedPeriod
    ∧ j.newestPage = s.journal.newestPage ∧ j.newestSequence = s.journal.newestSequence
    ∧ j.lastTime = s.journal.lastTime ∧ j.outcome = s.journal.outcome
    ∧ j.pages = s.journal.pages.set s.journal.target (.torn (s.journal.newestSequence + 1))

/-- The journal could start a checkpoint but for its sequence: IDLE, outside HOLD, the newest sequence at its last (R171). -/
abbrev State.sequenceSpent (s : State) : Prop :=
  s.journal.writing = none ∧ s.supply.power ≠ .hold ∧ 2 ^ 32 - 1 ≤ s.journal.newestSequence

/-- The journal after a checkpoint that `s` could not write for want of a sequence (R171): another pending, the retry timer at 10 s, the
period restarted, and the slip that waits as given, unattached. -/
def State.givenUp (s : State) (waiting : Option Bool) : Journal :=
  { s.journal with another := true, retry := .running 10000, period := s.restartedPeriod, waiting := waiting }

/-- The bytes of the control block that hold a field (12.3); the others are zero where the block is written whole. -/
def controlBlockBytes (a : Nat) : Prop := a ≤ 0x0C ∨ within 0x10 24 a ∨ within 0x28 28 a ∨ within 0x50 96 a

/-- Every field of the control block shows the state as it stands (R142, R153, 12.3). -/
def State.controlBlockShown (t : State) : Prop :=
  t.byteAt 0 = 0x16 ∧ t.byteAt 1 = 0x03 ∧ t.byteAt 2 = 1 ∧ t.byteAt 3 = 0
    ∧ t.byteAt 0x04 = BitVec.ofNat 8 t.supply.power.code ∧ t.byteAt 0x05 = BitVec.ofNat 8 t.monitor.state.code
    ∧ t.byteAt 0x06 = BitVec.ofNat 8 t.depot.state.code ∧ t.byteAt 0x07 = (if t.depot.lockout = true then 1 else 0)
    ∧ t.byteAt 0x08 = (if t.hires.hire = none then 0 else 1)
    ∧ t.byteAt 0x09 = BitVec.ofNat 8 t.scanner.state.code ∧ t.byteAt 0x0A = BitVec.ofNat 8 t.scanner.cursor
    ∧ t.byteAt 0x0B = (match t.port.cause with
      | .powerOn => 1
      | .pin => 2)
    ∧ t.byteAt 0x0C = BitVec.ofNat 8 t.journal.outcome.code
    ∧ memLe t.port.mem 4 0x10 = (match t.hires.hire with
      | some h => h.number
      | none => t.hires.lastClosed) % 2 ^ 32
    ∧ memLe t.port.mem 4 0x14 = t.journal.newestSequence % 2 ^ 32
    ∧ memLe t.port.mem 8 0x18 = t.supply.recorderTime % 2 ^ 64
    ∧ memLe t.port.mem 8 0x20 = t.journal.lastTime % 2 ^ 64
    ∧ (∀ k : Tally, memLe t.port.mem 4 (0x28 + 4 * k.index) = t.intake.tallies.get k % 2 ^ 32)
    ∧ (∀ q, let r := t.board.get q
      let a := 0x50 + 12 * quantityIndex q
      memLe t.port.mem 2 a = (r.value % 65536).toNat ∧ t.byteAt (a + 2) = BitVec.ofNat 8 r.age.code
        ∧ t.byteAt (a + 3) = BitVec.ofNat 8 r.source.code
        ∧ memLe t.port.mem 8 (a + 4) = (r.sampledAt.getD 0) % 2 ^ 64)

/-! ### What the counting blocks do -/

/-- ENGINE_SPEED is known and at or above the run threshold (R73). -/
abbrev State.speedAtRun (s : State) : Prop :=
  s.board.engineSpeed.age ≠ .unknown ∧ (s.tune.start.run : Int) ≤ s.board.engineSpeed.value

/-- ENGINE_SPEED is unknown or below the run threshold (R73). -/
abbrev State.speedBelowRun (s : State) : Prop :=
  s.board.engineSpeed.age = .unknown ∨ s.board.engineSpeed.value < s.tune.start.run

/-- One more start of the class that R82 gives one counted now: HOT within the hot window, which has ten quanta a second, of the
last stop; else COLD with the coolant known below the cold limit; else WARM. -/
def startCounted (s : State) (c : StartCounts) : StartCounts :=
  let one (n : Nat) : Nat := min Config.eventCeiling (n + 1)
  if ∃ l ∈ s.monitor.lastStop, s.supply.recorderTime - l < 10 * s.tune.start.hotWindow then { c with hot := one c.hot }
  else if s.board.coolantTemp.age ≠ .unknown ∧ s.board.coolantTemp.value < s.tune.start.coldLimit then
    { c with cold := one c.cold }
  else { c with warm := one c.warm }

/-- The damage increments, in order, land in an accumulator (R10). -/
def damageAfter (amounts : List Nat) (damage : Nat) : Nat := amounts.foldl (satAdd Config.damageCeiling) damage

/-- The damage increments, in order, land in the live entry of a slot (R10, R138). -/
def deltasAfter (slot : Nat) (amounts : List Nat) (entries : List DamageEntry) : List DamageEntry :=
  amounts.foldl (fun l n => addDelta slot n l) entries

/-- The slot's residue has become the stack and candidate given, its damage and the current record's delta have gained the
amounts, its residue drops have gained `drops`, with RESIDUE where that is not 0; the samples waiting are those given, and
nothing else has changed (R10, R117, R120). -/
def residueBecomes (s t : State) (slot : Nat) (samples : List SlotSample) (stack : List Int) (candidate : Option Candidate)
    (amounts : List Nat) (drops : Nat) : Prop :=
  t = { s with
      samples := samples, slots := t.slots, hires := s.hires.mapEntries (deltasAfter slot amounts)
      port := { s.port with notice := t.port.notice } }
    ∧ t.slots = s.slots.modify slot (fun o => o.map (fun c => { c with
        body := c.body.mapResidue (fun r =>
          ⟨damageAfter amounts r.damage, satAdd Config.eventCeiling r.drops drops, stack, candidate⟩) }))
    ∧ t.port.notice = if drops ≠ 0 ∧ s.resetLow = false then s.port.notice ||| 0x200 else s.port.notice

/-- The residue of a slot with its new stack after a push at 16 points at most, the overflow before it and the closure after it:
the stack, the damage increments and the overflows (R117, R118). -/
def pushed (p : CycleTune) (stack : List Int) (v : Int) : List Int × List Nat × Nat :=
  if stack.length < 16 then ((closure p (stack ++ [v])).1, (closure p (stack ++ [v])).2, 0)
  else
    ((closure p (stack.tail ++ [v])).1,
      p.weights.getD (min 15 ((stack.getD 0 0 - stack.getD 1 0).natAbs / p.width)) 0 :: (closure p (stack.tail ++ [v])).2, 1)

/-- The value of a sample handed to a slot (R111, R112): 0 with the clutch known DEPRESSED or with no valid non-neutral gear; else to a
GEARBOX the torque, and to an AXLE the torque times the gear's ratio over 512 times the number of FITTED AXLE slots, rounded half away
from zero and negated in reverse. Said for a torque and a ratio in their ranges, where no clamp acts. -/
def State.handsOn (s : State) (c : Component) (x : SlotSample) : Prop :=
  let gear := s.board.gear.value
  let torque := s.board.engineTorque.value
  let engaged : Prop := ¬ (s.board.clutch.age ≠ .unknown ∧ s.board.clutch.value = 1)
    ∧ s.board.gear.age ≠ .unknown ∧ ((1 ≤ gear ∧ gear ≤ 12) ∨ gear = -1 ∨ gear = -2)
  let ratio := if 0 < gear then s.tune.gearbox.forwardRatios.getD (gear.toNat - 1) 0
    else s.tune.gearbox.reverseRatios.getD ((-gear).toNat - 1) 0
  let divisor := 512 * (s.fittedWhere (fun c => decide (c.cls = .axle))).length
  (¬ engaged → x.value = 0 ∧ x.clamped = false)
    ∧ (engaged → c.cls = .gearbox → x.value = torque ∧ x.clamped = false)
    ∧ (engaged → c.cls = .axle → torque.natAbs ≤ 250 → ratio ≤ 2047 →
      let w := if gear < 0 then -x.value else x.value
      x.clamped = false ∧ 2 * (w * divisor - torque * ratio).natAbs ≤ divisor
        ∧ (2 * (w * divisor - torque * ratio).natAbs = divisor → (torque * ratio).natAbs < (w * divisor).natAbs))

/-- What a hand-on to the cycle counter by `s` makes of the waiting samples: in RUN with ENGINE_TORQUE FRESH one more for each FITTED
GEARBOX and AXLE slot, in ascending slot number, with its value by the board of `s`; else none (R110 to R112). -/
def State.feedsCounter (s : State) (samples : List SlotSample) : Prop :=
  (s.supply.power = .run ∧ s.board.engineTorque.age = .fresh →
      samples.take s.samples.length = s.samples
        ∧ (samples.drop s.samples.length).map (·.slot) = (s.fittedWhere (fun c => c.cls.hasResidue)).map (·.1)
        ∧ ∀ x ∈ samples.drop s.samples.length, ∀ c, s.slotAt x.slot = some c → s.handsOn c x)
    ∧ (¬ (s.supply.power = .run ∧ s.board.engineTorque.age = .fresh) → samples = s.samples)

/-! ### The derived gear -/

/-- Both shaft speeds are FRESH and the output turns at 50 rpm or more (R30). -/
abbrev Board.derivationDue (b : Board) : Prop :=
  b.inputSpeed.age = .fresh ∧ b.outputSpeed.age = .fresh ∧ 50 ≤ b.outputSpeed.value

/-- The gear that the shaft speeds give (R31): the first tuned gear, of the list that REVERSE chooses, whose ratio lies within the
tolerance of input x 64 / output; with none, N with the clutch known DEPRESSED, else SLIPPING. -/
def State.derives (s : State) (g : Int) : Prop :=
  let box := s.tune.gearbox
  let backward := s.tune.start.reverseWired && s.lines.reverse.level
  let count := if backward then box.reverse else box.forward
  let ratios := if backward then box.reverseRatios else box.forwardRatios
  let quotient := s.board.inputSpeed.value.toNat * 64 / s.board.outputSpeed.value.toNat
  let matching (i : Nat) : Prop := ((quotient : Int) - ratios.getD i 0).natAbs * 100 ≤ box.tolerance * ratios.getD i 0
  count ≤ ratios.length
    ∧ ((∃ i, i < count ∧ matching i ∧ (∀ j, j < i → ¬ matching j) ∧ g = if backward then -((i : Int) + 1) else (i : Int) + 1)
      ∨ ((∀ i, i < count → ¬ matching i)
        ∧ g = if s.board.clutch.age ≠ .unknown ∧ s.board.clutch.value = 1 then 0 else 13))

/-! ### The judgement of a window -/

/-- What frames say contradicts a window of no edges (R45): for P0 an ENGINE_SPEED above 500 rpm, for P1 a gear engaged in RUNNING with
the clutch RELEASED, for P2 an OUTPUT_SPEED above 200 rpm; each from a shadow of less than 500 ms, seen in quanta. -/
def State.contradicted (s : State) : Channel → Prop
  | .p0 => ∃ h, s.board.shadowEngine = some h ∧ h.quanta < 5 ∧ 500 < h.value
  | .p1 => s.monitor.state = .running ∧ (s.board.clutch.age ≠ .unknown ∧ s.board.clutch.value = 0)
      ∧ ∃ h, s.board.shadowGear = some h ∧ h.quanta < 5
        ∧ ((1 ≤ h.value ∧ h.value ≤ 12 ∧ h.value ≤ s.tune.gearbox.forward)
          ∨ ((h.value = -1 ∨ h.value = -2) ∧ -h.value ≤ s.tune.gearbox.reverse))
  | .p2 => ∃ h, s.board.shadowOutput = some h ∧ h.quanta < 5 ∧ 200 < h.value
  | .p3 => False

/-- A window is implausible (R45): its channel has a tooth, and it has more than 2000 edges, or its supply-left-ON mark, or no edge where
frames contradict that. -/
def State.windowBad (s : State) (ch : Channel) : Prop :=
  s.tune.pulse.teeth ch ≠ 0
    ∧ (2000 < (s.pulse.get ch).edges ∨ (s.pulse.get ch).mark = true ∨ ((s.pulse.get ch).edges = 0 ∧ s.contradicted ch))

/-- No frame shadow stands at the five quanta where a free value says whether 500 ms have passed (notes/assumptions/3.md). -/
def Board.untied (b : Board) : Prop :=
  ∀ h, (b.shadowEngine = some h ∨ b.shadowOutput = some h ∨ b.shadowGear = some h) → h.quanta ≠ 5

/-! ### Laws of a state -/

/-- The ring length is a legal one and the cursor an index of the ring (R141, R145). -/
abbrev State.ringLegal (s : State) : Prop := (4 ≤ s.port.ring ∧ s.port.ring ≤ 64) ∧ s.scanner.cursor < 64

/-- While RESETn is low the port stands as the reset left it: memory zeroed, no notice set, no slip held, no FEED in progress,
no slip waiting (R153). -/
def State.quietInReset (s : State) : Prop :=
  s.resetLow = true → s.port.mem = [] ∧ s.port.notice = 0 ∧ s.scanner.held = none ∧ s.intake.feed = none
    ∧ s.journal.waiting = none

/-- DEPOT and an open hire exclude each other (R133, R155). -/
abbrev State.depotOrHire (s : State) : Prop := s.depot.state = .depot → s.hires.hire = none

/-- A channel's counter and health agree (R47): a GOOD channel holds 0 to L - 1, a FAULTED one 1 to L. -/
def ChannelState.sound (limit : Nat) (c : ChannelState) : Prop :=
  match c.health with
  | .good => c.counter < limit
  | .faulted => 1 ≤ c.counter ∧ c.counter ≤ limit

/-- Every snapshot that the journal holds, in a page or in the staging of a checkpoint, has a property. -/
def Journal.every (j : Journal) (good : Snapshot → Prop) : Prop :=
  (∀ n c, Page.whole n c ∈ j.pages → good c) ∧ (∀ w, j.writing = some w → good w.staging)

/-- A fault limit that R160 allows. -/
def limitLegal (t : TuneSet) : Prop := 1 ≤ t.pulse.limit

/-- The channels are sound under the tuned limit, and every tune set the journal holds has a legal limit (R47). -/
def State.channelLaw (s : State) : Prop :=
  limitLegal s.tune ∧ (∀ ch, (s.pulse.get ch).sound s.tune.pulse.limit) ∧ s.journal.every (fun c => limitLegal c.tune)

/-- No two FITTED slots hold the same class and position (R1). -/
def distinctPlaces (slots : List (Option Component)) : Prop :=
  ∀ (i j : Nat) (c d : Component), slots[i]? = some (some c) → slots[j]? = some (some d) →
    c.cls = d.cls → c.position = d.position → i = j

/-- The law of R1, in the table and in every snapshot the journal holds. -/
def State.placesLaw (s : State) : Prop := distinctPlaces s.slots ∧ s.journal.every (fun c => distinctPlaces c.slots)

/-- The residue law (R108, R14): at most 16 points, adjacent differences nonzero and alternating in sign, a candidate beyond
the newest point on the side the newest difference does not lie. -/
def Residue.lawful (r : Residue) : Prop :=
  r.stack.length ≤ Config.stackLimit ∧ alternates r.stack = true ∧ candidateGood r.stack.reverse r.candidate = true

/-- Every residue of a table is lawful. -/
def residuesLawful (slots : List (Option Component)) : Prop :=
  ∀ c, some c ∈ slots → ∀ r, c.body.residue = some r → r.lawful

/-- Both gates are at least 1, as R109 clamps them. -/
def gatesLegal (t : TuneSet) : Prop := 1 ≤ t.gearbox.cycle.gate ∧ 1 ≤ t.axle.gate

/-- The law of R108 in the table and in every snapshot the journal holds, with the gates it rests on. -/
def State.residueLaw (s : State) : Prop :=
  (residuesLawful s.slots ∧ gatesLegal s.tune) ∧ s.journal.every (fun c => residuesLawful c.slots ∧ gatesLegal c.tune)

/-- No sample waits outside RUN: what was fed in RUN has been counted before the part left it (R6, R110, notes/assumptions/33.md). -/
abbrev State.samplesLaw (s : State) : Prop := s.supply.power ≠ .run → s.samples = []

/-- Each start count within its ceiling (R7). -/
def StartCounts.bounded (c : StartCounts) : Prop :=
  c.cold ≤ Config.eventCeiling ∧ c.warm ≤ Config.eventCeiling ∧ c.hot ≤ Config.eventCeiling
    ∧ c.unobserved ≤ Config.eventCeiling

/-- The bounds of R7 and the ENGINE law of R3 for a body. -/
def Body.lawful : Body → Prop
  | .engine b => b.starts.bounded ∧ b.cells.length = 17 ∧ b.cells.sum = b.run ∧ b.idle ≤ b.run ∧ b.run ≤ Config.timeCeiling
      ∧ b.overspeeds ≤ Config.eventCeiling
  | .starter b => b.attempts ≤ Config.eventCeiling ∧ b.failed ≤ Config.eventCeiling ∧ b.long ≤ Config.eventCeiling
      ∧ b.crankTime ≤ Config.timeCeiling
  | .clutch b => b.engagements ≤ Config.eventCeiling ∧ b.hotSlips ≤ Config.eventCeiling
      ∧ b.energy ≤ Config.energyCeiling ∧ b.remainder < Config.energyDivisor
  | .gearbox b => b.shifts ≤ Config.eventCeiling ∧ b.cells.sum ≤ Config.timeCeiling
      ∧ b.residue.damage ≤ Config.damageCeiling ∧ b.residue.drops ≤ Config.eventCeiling
  | .axle b => b.clampedSamples ≤ Config.eventCeiling ∧ b.residue.damage ≤ Config.damageCeiling
      ∧ b.residue.drops ≤ Config.eventCeiling
  | .pto b => b.time ≤ Config.timeCeiling ∧ b.engagements ≤ Config.eventCeiling

/-- As many cells as the first, each at least its counterpart. -/
def cellsAtLeast (b c : List Nat) : Prop := b.length = c.length ∧ ∀ i, b.getD i 0 ≤ c.getD i 0

/-- A body of the same class whose counters, and each of whose time cells, are at least those of the first (R3 to R5, R7). -/
def Body.atLeast : Body → Body → Prop
  | .engine b, .engine c => b.run ≤ c.run ∧ b.idle ≤ c.idle ∧ b.overspeeds ≤ c.overspeeds
      ∧ b.starts.cold ≤ c.starts.cold ∧ b.starts.warm ≤ c.starts.warm ∧ b.starts.hot ≤ c.starts.hot
      ∧ b.starts.unobserved ≤ c.starts.unobserved ∧ cellsAtLeast b.cells c.cells
  | .starter b, .starter c => b.attempts ≤ c.attempts ∧ b.failed ≤ c.failed ∧ b.long ≤ c.long ∧ b.crankTime ≤ c.crankTime
  | .clutch b, .clutch c => b.engagements ≤ c.engagements ∧ b.hotSlips ≤ c.hotSlips ∧ b.energy ≤ c.energy
  | .gearbox b, .gearbox c => b.shifts ≤ c.shifts ∧ cellsAtLeast b.cells c.cells ∧ b.residue.damage ≤ c.residue.damage
      ∧ b.residue.drops ≤ c.residue.drops
  | .axle b, .axle c => b.clampedSamples ≤ c.clampedSamples ∧ b.residue.damage ≤ c.residue.damage
      ∧ b.residue.drops ≤ c.residue.drops
  | .pto b, .pto c => b.time ≤ c.time ∧ b.engagements ≤ c.engagements
  | _, _ => False

/-- Every body of a table is lawful. -/
def bodiesLawful (slots : List (Option Component)) : Prop := ∀ c, some c ∈ slots → c.body.lawful

/-- Every fit count of a table is within the ceiling of event counts (R7). -/
def fitCountsBounded (slots : List (Option Component)) : Prop := ∀ c, some c ∈ slots → c.fitCount ≤ Config.eventCeiling

/-- The counts of a hire or a bucket are within their ceilings (R129). -/
def Counts.bounded (c : Counts) : Prop :=
  c.starts.bounded ∧ c.failedCranks ≤ Config.eventCeiling ∧ c.longCranks ≤ Config.eventCeiling
    ∧ c.overspeeds ≤ Config.eventCeiling ∧ c.engagements ≤ Config.eventCeiling ∧ c.hotSlips ≤ Config.eventCeiling
    ∧ c.shifts ≤ Config.eventCeiling ∧ c.run ≤ Config.timeCeiling ∧ c.idle ≤ Config.timeCeiling
    ∧ c.pto ≤ Config.timeCeiling ∧ c.crank ≤ Config.timeCeiling ∧ c.energy ≤ Config.energyCeiling

/-- Every damage delta of a list is within its ceiling (R130). -/
def deltasBounded (entries : List DamageEntry) : Prop := ∀ e ∈ entries, e.delta ≤ Config.damageCeiling

/-- The counts and deltas of the open hire, if there is one, and of the bucket are within their ceilings (R129, R130). -/
def registerBounded (hire : Option Hire) (bucket : Bucket) : Prop :=
  (∀ h, hire = some h → h.counts.bounded ∧ deltasBounded h.entries) ∧ bucket.counts.bounded ∧ deltasBounded bucket.entries

/-- No damage delta of an open hire exceeds its slot's accumulator (R130). -/
def deltasWithinDamage (slots : List (Option Component)) (hire : Option Hire) : Prop :=
  ∀ h, hire = some h → ∀ e ∈ h.entries, ∀ c r, slots[e.slot]? = some (some c) → c.body.residue = some r → e.delta ≤ r.damage

/-- The seven tallies are within their ceiling (R68). -/
def Tallies.bounded (t : Tallies) : Prop := ∀ k, t.get k ≤ Config.tallyCeiling

/-- The laws of R3 and R7, R129, R130 for what a page holds: bodies, fit counts, hire and bucket, and the hire's deltas. -/
def Snapshot.counted (c : Snapshot) : Prop :=
  bodiesLawful c.slots ∧ fitCountsBounded c.slots ∧ registerBounded c.hire c.bucket ∧ deltasWithinDamage c.slots c.hire

/-- Every counter is within its ceiling, the ENGINE law of R3 holds, and the deltas of an open hire stay within their slots' damage:
in the table, the hire register and the tallies (R3, R7, R68, R129, R130), and in every snapshot the journal holds. That the listed
slots stay FITTED rests on DEPOT and an open hire excluding each other (R130). -/
def State.countersLaw (s : State) : Prop :=
  (bodiesLawful s.slots ∧ fitCountsBounded s.slots ∧ registerBounded s.hires.hire s.hires.bucket)
    ∧ s.intake.tallies.bounded ∧ (s.depotOrHire ∧ deltasWithinDamage s.slots s.hires.hire)
    ∧ s.journal.every Snapshot.counted

/-- The journal has its 64 pages, and two that are whole carry different sequences; with supply, every whole page's sequence is at most
the newest, and a page in writing carries a greater one (R168, R170) and stands torn with it (notes/assumptions/11.md). -/
def State.journalLaw (s : State) : Prop :=
  s.journal.pages.length = Config.pageCount
    ∧ (∀ (i j n : Nat) (c d : Snapshot), s.journal.pages[i]? = some (.whole n c) → s.journal.pages[j]? = some (.whole n d) →
      i = j)
    ∧ (s.powered = true → ∀ (i n : Nat) (c : Snapshot), s.journal.pages[i]? = some (.whole n c) →
      n ≤ s.journal.newestSequence)
    ∧ (s.powered = true → ∀ w, s.journal.writing = some w →
      s.journal.newestSequence < w.sequence ∧ s.journal.pages[w.page]? = some (.torn w.sequence))

/-- No two entries with the same tag and the same target (R56). -/
abbrev routesDistinct (entries : List RouteEntry) : Prop :=
  entries.Pairwise (fun e f => ¬ (e.tag = f.tag ∧ e.target = f.target))

/-- The law of R56 for the route table and for every snapshot the journal holds. -/
def State.routesLaw (s : State) : Prop :=
  routesDistinct (s.intake.routes.map (·.entry)) ∧ s.journal.every (fun c => routesDistinct c.routes)

/-- Sixteen weights, each in 0..65535 (R109). -/
abbrev weightsLegal (weights : List Nat) : Prop := weights.length = 16 ∧ ∀ w ∈ weights, w ≤ 65535

/-- The ranges and structural rules of the nine sections (R33, R72, R92, R99, R109, R154, R160, 03 3.1). -/
def TuneSet.legal (t : TuneSet) : Prop :=
  (300 ≤ t.start.run ∧ t.start.run ≤ 1200 ∧ 100 ≤ t.start.stop ∧ t.start.stop ≤ 600 ∧ t.start.stop < t.start.run
    ∧ 3 ≤ t.start.longCrank ∧ t.start.longCrank ≤ 30 ∧ 500 ≤ t.start.catchTime ∧ t.start.catchTime ≤ 5000
    ∧ 10 ≤ t.start.hotWindow ∧ t.start.hotWindow ≤ 600 ∧ -40 ≤ t.start.coldLimit ∧ t.start.coldLimit ≤ 60)
  ∧ (t.engine.s1 < t.engine.s2 ∧ t.engine.s2 < t.engine.s3 ∧ t.engine.s3 ≤ 8000
    ∧ -250 ≤ t.engine.t1 ∧ t.engine.t1 < t.engine.t2 ∧ t.engine.t2 < t.engine.t3 ∧ t.engine.t3 ≤ 250
    ∧ 300 ≤ t.engine.idle ∧ t.engine.idle ≤ 1500 ∧ 1000 ≤ t.engine.overspeed ∧ t.engine.overspeed ≤ 8000
    ∧ 100 ≤ t.engine.reference ∧ t.engine.reference ≤ 5000)
  ∧ (10 ≤ t.clutch.floor ∧ t.clutch.floor ≤ 200 ∧ 1 ≤ t.clutch.hotSlip ∧ t.clutch.hotSlip ≤ 2000)
  ∧ (1 ≤ t.gearbox.forward ∧ t.gearbox.forward ≤ 12 ∧ t.gearbox.reverse ≤ 2 ∧ 1 ≤ t.gearbox.tolerance
    ∧ t.gearbox.tolerance ≤ 10 ∧ strictlyDecreasing (t.gearbox.forwardRatios.take t.gearbox.forward) = true
    ∧ (∀ q ∈ t.gearbox.forwardRatios.take t.gearbox.forward, 64 ≤ q ∧ q ≤ 2047)
    ∧ (∀ q ∈ t.gearbox.reverseRatios.take t.gearbox.reverse, 64 ≤ q ∧ q ≤ 2047)
    ∧ t.gearbox.forwardRatios.length = 12 ∧ t.gearbox.reverseRatios.length = 2)
  ∧ (1 ≤ t.gearbox.cycle.gate ∧ t.gearbox.cycle.gate ≤ 64 ∧ 1 ≤ t.gearbox.cycle.width ∧ t.gearbox.cycle.width ≤ 256
    ∧ 1 ≤ t.axle.gate ∧ t.axle.gate ≤ 64 ∧ 1 ≤ t.axle.width ∧ t.axle.width ≤ 256
    ∧ weightsLegal t.gearbox.cycle.weights ∧ weightsLegal t.axle.weights)
  ∧ (t.pulse.teeth0 ≤ 240 ∧ t.pulse.teeth1 ≤ 240 ∧ t.pulse.teeth2 ≤ 240 ∧ t.pulse.teeth3 ≤ 240
    ∧ 1 ≤ t.pulse.limit ∧ t.pulse.limit ≤ 15)
  ∧ (60 ≤ t.period ∧ t.period ≤ 3600) ∧ t.code < 2 ^ 32

/-- The tune set in force, and every one the journal holds, is legal. -/
def State.tuneLaw (s : State) : Prop := s.tune.legal ∧ s.journal.every (fun c => c.tune.legal)

/-! ### What a record must be to travel (R174) -/

/-- A residue whose points lie in the range of its class, lawful and within its counters. -/
def Residue.travels (r : Residue) (range : Int) : Prop :=
  r.lawful ∧ (∀ p ∈ r.stack, -range ≤ p ∧ p ≤ range) ∧ (∀ c, r.candidate = some c → -range ≤ c.value ∧ c.value ≤ range)

/-- A record as a slot holds it (R2 to R5): header in range, body lawful, the cell lists whole, the residue in range. -/
def Component.travels (c : Component) : Prop :=
  positionGood c.cls c.position = true
    ∧ (1 ≤ c.serial.length ∧ c.serial.length ≤ 16) ∧ (∀ b ∈ c.serial, 0x20 ≤ b.toNat ∧ b.toNat ≤ 0x7E)
    ∧ c.fittedAt ≤ Config.timeCeiling ∧ (1 ≤ c.fitCount ∧ c.fitCount < Config.eventCeiling)
    ∧ c.body.lawful
    ∧ (match c.body with
      | .gearbox b => b.cells.length = 16 ∧ b.residue.travels 250
      | .axle b => b.residue.travels 2047
      | _ => True)

end Sys2Proof.Machine
end

