-- ==== Sys2Proof/Certificates/Slice0/Obligations.lean ====
section
/-! DEFINITION. The statements for the provers. -/

open Sys2Proof Sys2Proof.Machine

/-! ### The machine -/

/-- With a command at the front of the queue, a step is that command's `exec` with the queue's rest (the block's own form); with
no command waiting the part idles, which is the MODEL'S CHOICE (notes/assumptions/1.md). -/
def Obligations.StepRunsTheFrontCommand : Prop :=
  (∀ (c : Instr) (rest : List Instr) (s : State), step (s.withPending (c :: rest)) = exec c (s.withPending rest))
    ∧ ∀ s : State, s.pending = [] → step s = .next s

/-- The state after reset is what POWER_ON makes of a part with 64 blank pages (R172: outcome BLANK, TORN set), with the lines
inactive and 12.6 V, which are the model's choice (notes/assumptions/2.md). -/
def Obligations.ResetIsPowerOnOfABlankPart : Prop :=
  exec (.powerOn false false false false 12600) State.reset.unpowered = .next State.reset
    ∧ State.reset.journal.outcome = .blank ∧ State.reset.noticeSet .torn = true
    ∧ State.reset.port.ring = 16 ∧ State.reset.port.mask = 0 ∧ State.reset.scanner.state = .idle
    ∧ State.reset.monitor.state = .off ∧ State.reset.sensor.state = .off ∧ State.reset.supply.recorderTime = 0
    ∧ State.reset.slots = List.replicate 8 none ∧ State.reset.hires.hire = none ∧ State.reset.tune = .default

/-- Every law that a step keeps holds after reset. -/
def Obligations.ResetMeetsEveryLaw : Prop :=
  State.reset.port.mem.wf ∧ State.reset.ringLegal ∧ State.reset.quietInReset ∧ State.reset.depotOrHire
    ∧ State.reset.channelLaw ∧ State.reset.placesLaw ∧ State.reset.residueLaw ∧ State.reset.samplesLaw ∧ State.reset.countersLaw
    ∧ State.reset.journalLaw ∧ State.reset.routesLaw ∧ State.reset.tuneLaw

/-! ### Laws that every step keeps -/

/-- Every step keeps the canonical form of exchange memory. -/
def Obligations.StepKeepsMemoryForm : Prop :=
  ∀ s t : State, s.port.mem.wf → step s = .next t → t.port.mem.wf

/-- Every step keeps the ring length in 4..64 and the cursor in 0..63 (R141, R145). -/
def Obligations.StepKeepsRingAndCursor : Prop := ∀ s t : State, s.ringLegal → step s = .next t → t.ringLegal

/-- Whatever step is taken while RESETn is low, the memory stays zeroed, no notice is set, no slip is held or waits and no FEED is
in progress. R153 zeroes them at the fall; that no owner rewrites a control block field before RESETn rises is the MODEL'S CHOICE
(notes/assumptions/12.md). -/
def Obligations.StepKeepsResetQuiet : Prop := ∀ s t : State, s.quietInReset → step s = .next t → t.quietInReset

/-- DEPOT and an open hire exclude each other in every step (R133, R155). -/
def Obligations.StepKeepsDepotAndHireApart : Prop := ∀ s t : State, s.depotOrHire → step s = .next t → t.depotOrHire

/-- Every fault counter stays within its bounds, and agrees with its channel's health, in every step (R47). -/
def Obligations.StepKeepsChannelLaw : Prop := ∀ s t : State, s.channelLaw → step s = .next t → t.channelLaw

/-- No step gives two FITTED slots the same class and position, in the table or in a page (R1). -/
def Obligations.StepKeepsPlacesDistinct : Prop := ∀ s t : State, s.placesLaw → step s = .next t → t.placesLaw

/-- Every turning-point stack stays at 16 points at most and alternating, in every step (R108). And every step keeps it so that no
sample waits outside RUN, where no increment arrives but those of a close-out (R6): that what was fed in RUN is taken before the part
leaves it is the MODEL'S CHOICE (notes/assumptions/33.md). -/
def Obligations.StepKeepsResidueLaw : Prop :=
  (∀ s t : State, s.residueLaw → step s = .next t → t.residueLaw)
    ∧ ∀ s t : State, s.samplesLaw → step s = .next t → t.samplesLaw

/-- Every counter stays within its ceiling, in every step: those of the bodies and the fit count of each record (R7), the counts and
damage deltas of the open hire and of the bucket (R129, R130) and the seven intake tallies (R68), in the part and in every snapshot
its journal holds. An ENGINE's load-band cells sum to its run time, and its idle time stays within it (R3). The damage delta of an
open hire never exceeds its slot's damage accumulator (R130); beside it stands the law it rests on, that DEPOT and an open hire exclude
each other. -/
def Obligations.StepKeepsCounterLaw : Prop := ∀ s t : State, s.countersLaw → step s = .next t → t.countersLaw

/-- The route table never holds two entries with the same tag and the same target, in every step (R56). -/
def Obligations.StepKeepsRoutesDistinct : Prop := ∀ s t : State, s.routesLaw → step s = .next t → t.routesLaw

/-- Every field of the tune set, the weights of both classes among them, stays in its range and every structural rule holds, in
every step (R109, R160); a ratio beyond its tuned count, which R160 leaves as written, has no range. -/
def Obligations.StepKeepsTuneLegal : Prop := ∀ s t : State, s.tuneLaw → step s = .next t → t.tuneLaw

/-- No two whole pages carry the same sequence, and a page is written with a sequence above every whole page's (R170), in every step;
while it is written it reads as torn with that sequence, which is the MODEL'S CHOICE (notes/assumptions/11.md). -/
def Obligations.StepKeepsJournalLaw : Prop := ∀ s t : State, s.journalLaw → step s = .next t → t.journalLaw

/-- While the part keeps its supply, no counter of a record falls, each load-band and gear-time cell among them, and its header
stands, as long as its slot stays FITTED (R3 to R5, R7). -/
def Obligations.CountersNeverFall : Prop :=
  ∀ (c : Instr) (s t : State), bodiesLawful s.slots → s.powered = true → exec c s = .next t → t.powered = true →
    ∀ (i : Nat) (a b : Component), s.slotAt i = some a → t.slotAt i = some b →
      (a.position = b.position ∧ a.serial = b.serial ∧ a.fittedAt = b.fittedAt ∧ a.fitCount = b.fitCount)
        ∧ a.body.atLeast b.body

/-! ### The port -/

/-- Every command of the port, written as the SPI transaction of 12.2, is read back as itself. -/
def Obligations.TransactionsDecodeToTheirCommands : Prop :=
  ∀ (i : Instr) (bytes : List Byte), i.wellFormed = true → encodeTransaction i = some bytes →
    decodeTransaction bytes = some i

/-- RING_WRITE stores its first byte clamped to 4..64 (R141). NOTICE_WRITE clears exactly the notices whose bits are written 1.
NOTICE_MASK_WRITE stores the mask, and ATTN follows: low exactly while some notice is set and unmasked (R152). Each changes
nothing else. -/
def Obligations.RegisterWritesStoreTheirBits : Prop :=
  (∀ (b : Byte) (rest : List Byte) (s : State), s.live →
    exec (.ringWrite (b :: rest)) s = .next { s with port := { s.port with ring := max 4 (min 64 b.toNat) } })
    ∧ (∀ (lo hi : Byte) (rest : List Byte) (s : State), s.live →
      ∃ m : BitVec 12, exec (.noticeWrite (lo :: hi :: rest)) s = .next { s with port := { s.port with notice := m } }
        ∧ ∀ n : Notice, m.getLsbD n.bit = (s.noticeSet n && !((hi ++ lo : BitVec 16).getLsbD n.bit)))
    ∧ (∀ (lo hi : Byte) (rest : List Byte) (s : State), s.live →
      ∃ t : State, exec (.noticeMaskWrite (lo :: hi :: rest)) s = .next t
        ∧ t = { s with port := { s.port with mask := (hi ++ lo : BitVec 16).setWidth 12 } }
        ∧ (t.attnLow = true ↔ ∃ n : Notice, s.noticeSet n = true ∧ (hi ++ lo : BitVec 16).getLsbD n.bit = false))

/-- A write to IDENT, to an unlisted register or with an unlisted operation changes nothing (R141); and while RESETn is low the
port takes no write, NUDGE has no effect, and every read answers zeros (R153). -/
def Obligations.PortIgnoresWhatItMust : Prop :=
  (∀ (op : Byte) (addr : BitVec 16) (data : List Byte) (s : State), exec (.registerWriteIgnored op addr data) s = .next s)
    ∧ ∀ s : State, s.resetLow = true →
      (∀ data, exec (.ringWrite data) s = .next s ∧ exec (.noticeWrite data) s = .next s
        ∧ exec (.noticeMaskWrite data) s = .next s ∧ (∀ addr, exec (.exchangeMemoryWrite addr data) s = .next s))
        ∧ exec .nudge s = .next s
        ∧ ∀ op addr n, s.spiRead op addr n = List.replicate n 0

/-- EXCHANGE_MEMORY_WRITE: every byte written reads back, at its address modulo 0x8000, every other byte reads as before, and
nothing but exchange memory changes (R140). -/
def Obligations.MemoryWriteReadsBack : Prop :=
  ∀ (addr : BitVec 16) (data : List Byte) (s : State), s.live → s.port.mem.wf → data.length ≤ Config.memorySize →
    ∃ t : State, exec (.exchangeMemoryWrite addr data) s = .next t
      ∧ t = { s with port := { s.port with mem := t.port.mem } }
      ∧ (∀ i (h : i < data.length), t.byteAt ((addr.toNat + i) % Config.memorySize) = data[i])
      ∧ bytesKept s t (fun a => ∃ i, i < data.length ∧ a = (addr.toNat + i) % Config.memorySize)

/-- What the host reads of the registers, with any bytes beyond the width 0 (R140, R141, 12.2), and of exchange memory. -/
def Obligations.RegistersReadTheirValues : Prop :=
  ∀ s : State, s.live →
    s.spiRead 0x0A 0 6 = [0x16, 0x03, 1, 0, 0, 0]
      ∧ s.spiRead 0x0A 1 2 = [BitVec.ofNat 8 s.port.ring, 0]
      ∧ s.spiRead 0x0A 2 1 = [0]
      ∧ s.spiRead 0x0A 3 3 = [s.port.notice.setWidth 8, (s.port.notice >>> 8).setWidth 8, 0]
      ∧ s.spiRead 0x0A 4 3 = [s.port.mask.setWidth 8, (s.port.mask >>> 8).setWidth 8, 0]
      ∧ (∀ addr : BitVec 16, 4 < addr.toNat → s.spiRead 0x0A addr 1 = [0])
      ∧ (∀ addr : BitVec 16, s.spiRead 0x02 addr 2 = [s.byteAt addr.toNat, s.byteAt (addr.toNat + 1)])

/-! ### The scanner -/

/-- A nudge on a busy scanner sets nudge-pending and changes nothing else; the self-poll timer's expiry in RUN starts the timer
again at 1 s and acts as a nudge (R146). A nudge on an IDLE scanner reads the slip at the cursor (R146, R147): a DEVICE slip of
one of the twelve kinds is taken with its fields as they stand; at a HOST slip the scanner is IDLE again, a nudge that was pending
cleared and the same slip read once more before it. Only the scanner's published state and cursor change in memory. -/
def Obligations.NudgesReachTheScanner : Prop :=
  ((∀ s : State, s.live → s.scanner.state ≠ .idle →
      exec .nudge s = .next { s with scanner := { s.scanner with nudgePending := true } })
      ∧ ∀ (s : State) (ms : Nat), s.live → s.supply.power = .run → s.scanner.selfPoll = .running ms →
        exec .selfPollExpiry s = exec .nudge { s with scanner := { s.scanner with selfPoll := .running 1000 } }
          ∧ (s.scanner.state ≠ .idle → exec .selfPollExpiry s =
            .next { s with scanner := { s.scanner with selfPoll := .running 1000, nudgePending := true } }))
    ∧ (∀ s : State, s.live → s.port.mem.wf → s.ringLegal → s.scanner.state = .idle →
      (∀ kind, s.ownedByDevice s.scanner.cursor = true →
        kindOfCode (s.byteAt (slipAddress s.scanner.cursor + 1)).toNat = some kind →
        ∃ t : State, exec .nudge s = .next t ∧ t = { s with scanner := t.scanner, port := { s.port with mem := t.port.mem } }
          ∧ t.scanner = { s.scanner with
              state := .scanning, held := some ⟨readSlip s.port.mem (slipAddress s.scanner.cursor) kind, 0, 0⟩ }
          ∧ t.byteAt 0x09 = 1 ∧ t.byteAt 0x0A = BitVec.ofNat 8 s.scanner.cursor ∧ bytesKept s t scannerBytes)
        ∧ (s.ownedByDevice s.scanner.cursor = false →
          ∃ t : State, exec .nudge s = .next t
            ∧ t = { s with
                scanner := { s.scanner with nudgePending := false }, port := { s.port with mem := t.port.mem } }
            ∧ t.byteAt 0x09 = 0 ∧ t.byteAt 0x0A = BitVec.ofNat 8 s.scanner.cursor ∧ bytesKept s t scannerBytes))

/-- The cursor at the return of a slip: to 0 on RING-END or at the ring length stored at that moment, else to the next slip
(R149). -/
def Obligations.CursorAdvancesByTheStoredRing : Prop :=
  ∀ (s : State) (p : Slip) (r : Result),
    (s.giveBack p r).scanner.cursor =
      if p.ringEnd = true ∨ s.port.ring ≤ s.scanner.cursor + 1 then 0 else s.scanner.cursor + 1

/-- The return of a slip (R148): owner HOST, status, out-length and detail in their places, the rest of the slip as it stood,
CLEAR's zeros, SLIP on NOTIFY, and no other byte changed but the scanner's published cursor. -/
def Obligations.ReturnWritesTheSlip : Prop :=
  ∀ (s : State) (p : Slip) (r : Result), s.live → s.port.mem.wf → s.ringLegal → p.referencesGood = true →
    r.used ≤ p.outLength → r.status ≠ .badReference →
    let a := slipAddress s.scanner.cursor
    let t := s.giveBack p r
    t = { s with scanner := t.scanner, port := { s.port with mem := t.port.mem, notice := t.port.notice } }
      ∧ t.scanner = { s.scanner with held := none, cursor := t.scanner.cursor }
      ∧ t.byteAt a = 0 ∧ t.byteAt (a + 3) = BitVec.ofNat 8 r.status.code
      ∧ memLe t.port.mem 2 (a + 12) = r.used % 65536 ∧ memLe t.port.mem 2 (a + 14) = r.detail % 65536
      ∧ (∀ i, i < 12 → i ≠ 0 → i ≠ 3 → t.byteAt (a + i) = s.byteAt (a + i))
      ∧ (p.clear = true → ∀ b, within (p.outOffset + r.used) (p.outLength - r.used) b → t.byteAt b = 0)
      ∧ bytesKept s t (fun b => within a 16 b ∨ b = 0x09 ∨ b = 0x0A
        ∨ (p.clear = true ∧ within (p.outOffset + r.used) (p.outLength - r.used) b))
      ∧ t.port.notice = if p.notify = true then s.port.notice ||| 1 else s.port.notice

/-- After a return the scanner reads the next slip (R147, R148): it takes a DEVICE slip of one of the twelve kinds, and at a slip that
is not handed over it goes IDLE, a nudge that was pending cleared and the same slip read once more before it. -/
def Obligations.ReturnReadsTheNextSlip : Prop :=
  ∀ (s : State) (p : Slip) (r : Result), s.live → s.port.mem.wf → s.ringLegal → p.referencesGood = true →
    r.used ≤ p.outLength → s.scanner.state = .scanning →
    let next := s.nextCursor p.ringEnd
    ((next = s.scanner.cursor ∨ s.ownedByDevice next = false) →
      (s.returnSlip p r).scanner =
        { s.scanner with state := .idle, cursor := next, held := none, nudgePending := false })
      ∧ (∀ kind, next ≠ s.scanner.cursor → s.ownedByDevice next = true →
        kindOfCode (s.byteAt (slipAddress next + 1)).toNat = some kind →
        (s.returnSlip p r).scanner =
          { s.scanner with cursor := next, held := some ⟨readSlip s.port.mem (slipAddress next) kind, 0, 0⟩ })

/-- A slip of any kind with a bad reference is returned BAD-REFERENCE by its command, and its block does nothing (R144); one of an
unknown kind, with good references, is taken and comes back BAD-KIND (R148), here from an IDLE scanner with nothing handed over
after it. That this happens in the reading step is the MODEL'S CHOICE (notes/assumptions/8.md). -/
def Obligations.BadSlipsAreReturned : Prop :=
  (∀ offset length, referenceGood offset length = false ↔
      1 ≤ length ∧ (31488 < length ∨ offset < 0x0500 ∨ 0x7FFF < offset + length - 1))
    ∧ (∀ (kind : SlipKind) (s : State) (p : Slip), s.powered = true → s.dispatched kind = some p →
      p.referencesGood = false → exec (commandOf kind) s = .next (s.returnSlip p ⟨.badReference, 0, 0⟩))
    ∧ ∀ s : State, s.live → s.port.mem.wf → s.ringLegal → s.scanner.state = .idle → s.scanner.nudgePending = false →
      let a := slipAddress s.scanner.cursor
      let p := readSlip s.port.mem a .nop
      s.ownedByDevice s.scanner.cursor = true → kindOfCode (s.byteAt (a + 1)).toNat = none → p.referencesGood = true →
      (s.nextCursor p.ringEnd = s.scanner.cursor ∨ s.ownedByDevice (s.nextCursor p.ringEnd) = false) →
      ∃ t : State, exec .nudge s = .next t ∧ t.scanner = { s.scanner with cursor := s.nextCursor p.ringEnd, held := none }
        ∧ t.byteAt a = 0 ∧ t.byteAt (a + 3) = 2 ∧ memLe t.port.mem 2 (a + 12) = 0 ∧ memLe t.port.mem 2 (a + 14) = 0

/-- NOP is returned DONE at once, with detail and out-length 0 (R151). SAVE with the journal free starts a checkpoint whose
snapshot is the state as it stands, and waits attached to it (R150, R170); one taken while a checkpoint is written, or in HOLD,
waits unattached with another checkpoint pending. Nothing but the scanner, the journal and the scanner's published state
changes. -/
def Obligations.NopReturnsAndSaveWaits : Prop :=
  (∀ (s : State) (p : Slip), s.holdsSlip .nop p → exec .nop s = .next (s.returnSlip p ⟨.done, 0, 0⟩))
    ∧ (∀ (s : State) (p : Slip), s.holdsSlip .save p → s.resetLow = false → s.port.mem.wf → s.journalFree →
      ∃ t : State, exec .save s = .next t
        ∧ t = { s with scanner := t.scanner, journal := t.journal, port := { s.port with mem := t.port.mem } }
        ∧ t.scanner = { s.scanner with state := .waitSave, held := some ⟨p, 0, 0⟩ }
        ∧ t.journal.startedFrom s ∧ t.journal.waiting = some true
        ∧ t.byteAt 0x09 = 2 ∧ bytesKept s t scannerBytes)
    ∧ (∀ (s : State) (p : Slip), s.holdsSlip .save p → (s.journal.writing ≠ none ∨ s.supply.power = .hold) →
      ∃ t : State, exec .save s = .next t
        ∧ t = { s with
            scanner := { s.scanner with state := .waitSave, held := some ⟨p, 0, 0⟩ }
            journal := { s.journal with another := true, waiting := some false }
            port := { s.port with mem := t.port.mem } }
        ∧ (s.resetLow = false → s.port.mem.wf → t.byteAt 0x09 = 2 ∧ bytesKept s t scannerBytes))

/-! ### Slips: frame intake -/

/-- The checks of ROUTE in their order (R58), each leaving the state as it was but for the slip's return. An accepted ROUTE (R59):
the table becomes the entries in their order, every mark none, ROUTE set, and the slip is returned DONE with the count; a pair
with the same tag and target is refused at its later entry. An entry is refused by check 4 exactly for one of its six faults: a target
outside 0, 2, 4, 5, 6 and 7, a start bit above 63, a width of 0 or above 16, the two together above 64, a multiplier of 0 or a divisor
of 0; else its fields are read by the layout of 12.5, the tag from 29 bits, signed from any nonzero byte (R173), the offset signed. -/
def Obligations.RouteIsCheckedAndLoaded : Prop :=
  (∀ (s : State) (p : Slip), s.holdsSlip .route p →
    let count := memLe s.port.mem 2 p.inOffset
    (p.inLength < 4 → exec .route s = .next (s.returnSlip p ⟨.badLength, 0, 0⟩))
      ∧ (4 ≤ p.inLength → 16 < count → exec .route s = .next (s.returnSlip p ⟨.badRoute, count, 0⟩))
      ∧ (4 ≤ p.inLength → count ≤ 16 → p.inLength ≠ 4 + 16 * count →
        exec .route s = .next (s.returnSlip p ⟨.badLength, 0, 0⟩))
      ∧ (p.inLength = 4 + 16 * count → count ≤ 16 →
        ∀ (i : Nat), i < count → readRouteEntry s.port.mem (p.inOffset + 4 + 16 * i) = none →
          (∀ j, j < i → readRouteEntry s.port.mem (p.inOffset + 4 + 16 * j) ≠ none) →
          exec .route s = .next (s.returnSlip p ⟨.badRoute, i, 0⟩)))
    ∧ (∀ (s : State) (p : Slip) (entries : List RouteEntry), s.holdsSlip .route p → s.resetLow = false →
      memLe s.port.mem 2 p.inOffset = entries.length → entries.length ≤ 16 → p.inLength = 4 + 16 * entries.length →
      (∀ i (h : i < entries.length), readRouteEntry s.port.mem (p.inOffset + 4 + 16 * i) = some entries[i]) →
      (routesDistinct entries →
        exec .route s = .next (State.returnSlip
          { s with
            intake := { s.intake with routes := entries.map (fun e => ⟨e, none⟩) }
            port := { s.port with notice := s.port.notice ||| 0x800 } }
          p ⟨.done, entries.length, 0⟩))
        ∧ (∀ i (h : i < entries.length), routesDistinct (entries.take i) →
          (∃ j, ∃ hj : j < i, entries[j].tag = entries[i].tag ∧ entries[j].target = entries[i].target) →
          exec .route s = .next (s.returnSlip p ⟨.badRoute, i, 0⟩)))
    ∧ ∀ (m : Memory) (a : Nat),
      let byte (i : Nat) : Nat := (memGet m (a + i)).toNat
      let word (i : Nat) : Nat := memLe m 2 (a + i)
      let codeOf (target : RouteTarget) : Nat := match target with
        | .engineSpeed => 0
        | .outputSpeed => 2
        | .engineTorque => 4
        | .coolantTemp => 5
        | .clutch => 6
        | .gear => 7
      (readRouteEntry m a = none ↔ byte 4 = 1 ∨ byte 4 = 3 ∨ 7 < byte 4 ∨ 63 < byte 5 ∨ byte 6 = 0 ∨ 16 < byte 6
          ∨ 64 < byte 5 + byte 6 ∨ word 8 = 0 ∨ word 10 = 0)
        ∧ ∀ e, readRouteEntry m a = some e →
          (e.tag.toNat = memLe m 4 a % 2 ^ 29 ∧ codeOf e.target = byte 4 ∧ e.startBit = byte 5 ∧ e.width = byte 6)
            ∧ (e.signed = true ↔ byte 7 ≠ 0) ∧ e.multiplier = word 8 ∧ e.divisor = word 10
            ∧ e.offset = (if word 12 < 32768 then (word 12 : Int) else word 12 - 65536)

/-- FEED (R60): refused when the in-length is not a multiple of 16, done at once with no record, and otherwise begun on its
records, at most 1968 of them. That the command ends with nothing read yet, every record being left to FEED_CANDIDATE, is the
MODEL'S CHOICE (notes/assumptions/18.md). -/
def Obligations.FeedIsCheckedOnce : Prop :=
  ∀ (s : State) (p : Slip), s.holdsSlip .feed p → s.intake.feed = none →
    (p.inLength % 16 ≠ 0 → exec .feed s = .next (s.returnSlip p ⟨.badLength, 0, 0⟩))
      ∧ (p.inLength = 0 → exec .feed s = .next (s.returnSlip p ⟨.done, 0, 0⟩))
      ∧ (p.inLength % 16 = 0 → p.inLength ≠ 0 →
        exec .feed s = .next
          { s with intake := { s.intake with feed := some ⟨p.inOffset, p.inLength / 16, 0, none, 0⟩ } })
      ∧ p.inLength / 16 ≤ 1968

/-- FEED_CANDIDATE. On a record with no matching entry, with records left: TAKEN and UNROUTED gain 1 below their ceiling, the FEED moves
on, and only the two published tallies change in memory (R61, R68); on such a last record both tallies gain and the FEED is returned DONE
with the count so far. On a record that entries match (those that carry its tag, in the order of the table) TAKEN gains 1 and the first
candidate alone is handled, the rest kept in hand (R61). With candidates left of the record in hand the first of them alone is handled,
and counted when a sample was applied (R61, R67); after the record's last candidate the next record follows, and after the last candidate
of the last record the FEED is returned DONE with the count of samples applied (R69). That a step takes one candidate is the table's own
row; where one step ends and the next begins is the MODEL'S CHOICE (notes/assumptions/18.md). -/
def Obligations.FeedGoesRecordByRecord : Prop :=
  (∀ (s : State) (w : FeedWork), s.live → s.port.mem.wf → s.intake.feed = some w → w.inHand = none →
    w.next + 1 < w.total →
    (∀ r ∈ s.intake.routes, r.entry.tag ≠ (readFrame s.port.mem (w.base + 16 * w.next)).tag) →
    s.intake.tallies.taken < Config.tallyCeiling → s.intake.tallies.unrouted < Config.tallyCeiling →
    ∃ t : State, exec .feedCandidate s = .next t
      ∧ t = { s with
          intake := { s.intake with
            tallies := { s.intake.tallies with
              taken := s.intake.tallies.taken + 1, unrouted := s.intake.tallies.unrouted + 1 }
            feed := some { w with next := w.next + 1 } }
          port := { s.port with mem := t.port.mem } }
      ∧ memLe t.port.mem 4 0x28 = s.intake.tallies.taken + 1 ∧ memLe t.port.mem 4 0x2C = s.intake.tallies.unrouted + 1
      ∧ bytesKept s t (within 0x28 8))
    ∧ (∀ (s : State) (w : FeedWork) (p : Slip), s.holdsSlip .feed p → s.intake.feed = some w → w.inHand = none →
      w.next + 1 = w.total → (∀ r ∈ s.intake.routes, r.entry.tag ≠ (readFrame s.port.mem (w.base + 16 * w.next)).tag) →
      exec .feedCandidate s =
        .next ((((s.bumpTally .taken).bumpTally .unrouted).setFeed none).returnSlip p ⟨.done, w.applied, 0⟩))
    ∧ (∀ (routes : List Route) (tag : BitVec 29), (matchingRoutes routes tag).Pairwise (· < ·)
      ∧ ∀ k, k ∈ matchingRoutes routes tag ↔ ∃ r, routes[k]? = some r ∧ r.entry.tag = tag)
    ∧ (∀ (s : State) (w : FeedWork) (i : Nat) (rest : List Nat), s.powered = true → s.intake.feed = some w →
      w.inHand = none → w.next < w.total →
      let f := readFrame s.port.mem (w.base + 16 * w.next)
      let handled := (s.bumpTally .taken).handleCandidate f i
      let applied := w.applied + (if handled.1 = true then 1 else 0)
      matchingRoutes s.intake.routes f.tag = i :: rest →
      ((rest ≠ [] ∨ w.next + 1 < w.total) → exec .feedCandidate s = .next (handled.2.setFeed (some { w with
          next := w.next + 1, inHand := if rest = [] then none else some ⟨f, rest⟩, applied := applied })))
        ∧ (∀ p, rest = [] → w.next + 1 = w.total → s.holdsSlip .feed p →
          exec .feedCandidate s = .next ((handled.2.setFeed none).returnSlip p ⟨.done, applied, 0⟩)))
    ∧ (∀ (s : State) (w : FeedWork) (f : Frame) (i j : Nat) (rest : List Nat), s.powered = true →
      s.intake.feed = some w → w.inHand = some ⟨f, i :: j :: rest⟩ →
      exec .feedCandidate s = .next ((s.handleCandidate f i).2.setFeed
        (some { w with
          inHand := some ⟨f, j :: rest⟩
          applied := w.applied + (if (s.handleCandidate f i).1 = true then 1 else 0) })))
    ∧ (∀ (s : State) (w : FeedWork) (f : Frame) (i : Nat), s.powered = true → s.intake.feed = some w →
      w.inHand = some ⟨f, [i]⟩ → w.next < w.total →
      exec .feedCandidate s = .next ((s.handleCandidate f i).2.setFeed
        (some { w with
          inHand := none
          applied := w.applied + (if (s.handleCandidate f i).1 = true then 1 else 0) })))
    ∧ (∀ (s : State) (w : FeedWork) (f : Frame) (i : Nat) (p : Slip), s.holdsSlip .feed p → s.intake.feed = some w →
      w.inHand = some ⟨f, [i]⟩ → w.total ≤ w.next →
      exec .feedCandidate s = .next (((s.handleCandidate f i).2.setFeed none).returnSlip p
        ⟨.done, w.applied + (if (s.handleCandidate f i).1 = true then 1 else 0), 0⟩))

/-- How a candidate ends (R62, R63, R64): a field beyond the data length is SHORT-FRAME, an unsigned field of all ones NA, a host
time 1 to 2^31 - 1 before the mark LATE, each dropping it with its mark as it was; else it is accepted, its mark becomes the
record's host time, and it is scaled and delivered. Delivery: the value is clamped to its target's range, CLAMPED when that changes
it (R66). In DOZE it is not applied and casts no shadow (R23). Otherwise an ENGINE_SPEED, OUTPUT_SPEED or GEAR value enters its frame
shadow (R27), a gear beyond the tuned counts as SLIPPING (R21), and it is applied with source FRAME, a speed while its channel is
FAULTED or has teeth 0 (R26), torque and coolant always (R28), CLUTCH while it is not wired (R29), GEAR unless it is FRESH with
source DERIVED (R32); what is not applied is SHADOWED (R67). A tally below its ceiling gains 1 and is shown (R68). -/
def Obligations.CandidateEndsByItsRule : Prop :=
  (∀ (s : State) (f : Frame) (i : Nat) (r : Route), s.intake.routes[i]? = some r →
    let field := leNat f.data / 2 ^ r.entry.startBit % 2 ^ r.entry.width
    let fits := r.entry.startBit + r.entry.width ≤ 8 * f.length
    let na := r.entry.signed = false ∧ field = 2 ^ r.entry.width - 1
    let late := ∃ m, r.mark = some m ∧ 1 ≤ (m - f.time).toNat ∧ (m - f.time).toNat ≤ 2 ^ 31 - 1
    (¬ fits → s.handleCandidate f i = (false, s.bumpTally .shortFrame))
      ∧ (fits → na → s.handleCandidate f i = (false, s.bumpTally .na))
      ∧ (fits → ¬ na → late → s.handleCandidate f i = (false, s.bumpTally .late))
      ∧ (fits → ¬ na → ¬ late →
        s.handleCandidate f i = State.deliverValue
          { s with intake := { s.intake with routes := s.intake.routes.set i ⟨r.entry, some f.time⟩ } } r.entry.target
          (r.entry.scale (if r.entry.signed = true ∧ 2 ^ r.entry.width ≤ 2 * field then (field : Int) - 2 ^ r.entry.width
            else field))))
    ∧ (∀ (s : State) (target : RouteTarget) (v : Int),
      let range : Int × Int := match target with
        | .engineSpeed => (0, 8000)
        | .outputSpeed => (0, 8000)
        | .engineTorque => (-250, 250)
        | .coolantTemp => (-40, 210)
        | .clutch => (0, 1)
        | .gear => (-2, 12)
      let c := if v < range.1 then range.1 else if range.2 < v then range.2 else v
      let tallied := if c = v then s else s.bumpTally .clamped
      let gears := s.tune.gearbox
      let stored : Int := if target = .gear ∧ ((gears.forward : Int) < c ∨ (gears.reverse : Int) < -c) then 13 else c
      let shadow : Shadow := ⟨stored, s.supply.recorderTime, 0⟩
      let cast : State := match target with
        | .engineSpeed => { tallied with board := { s.board with shadowEngine := some shadow } }
        | .outputSpeed => { tallied with board := { s.board with shadowOutput := some shadow } }
        | .gear => { tallied with board := { s.board with shadowGear := some shadow } }
        | .engineTorque => tallied
        | .coolantTemp => tallied
        | .clutch => tallied
      let feeds : Prop := match target with
        | .engineSpeed => s.tune.pulse.teeth0 = 0 ∨ s.pulse.p0.health = .faulted
        | .outputSpeed => s.tune.pulse.teeth2 = 0 ∨ s.pulse.p2.health = .faulted
        | .engineTorque => True
        | .coolantTemp => True
        | .clutch => s.tune.start.clutchWired = false
        | .gear => ¬ (s.board.gear.age = .fresh ∧ s.board.gear.source = .derived)
      (s.supply.power = .doze → s.deliverValue target v = (false, tallied.bumpTally .shadowed))
        ∧ (s.supply.power ≠ .doze → ¬ feeds → s.deliverValue target v = (false, cast.bumpTally .shadowed))
        ∧ (s.supply.power ≠ .doze → feeds →
          s.deliverValue target v = (true, cast.applySample (targetQuantity target) stored .frame)))
    ∧ ∀ (s : State) (k : Tally), s.live → s.port.mem.wf → s.intake.tallies.get k < Config.tallyCeiling →
      let t := s.bumpTally k
      t = { s with
          intake := { s.intake with tallies := s.intake.tallies.set k (s.intake.tallies.get k + 1) }
          port := { s.port with mem := t.port.mem } }
        ∧ memLe t.port.mem 4 (0x28 + 4 * k.index) = s.intake.tallies.get k + 1
        ∧ bytesKept s t (within (0x28 + 4 * k.index) 4)

/-- The scaled value is the nearest integer to raw x multiplier / divisor + offset, a half going away from zero (R65). -/
def Obligations.ScalingRoundsHalfAwayFromZero : Prop :=
  ∀ (e : RouteEntry) (raw : Int), 0 < e.divisor →
    let exact := raw * e.multiplier + e.offset * e.divisor
    let v := e.scale raw
    2 * (v * e.divisor - exact).natAbs ≤ e.divisor
      ∧ (2 * (v * e.divisor - exact).natAbs = e.divisor → exact.natAbs < (v * e.divisor).natAbs)

/-- An accepted ENGINE_TORQUE value in -250..250 is applied outside DOZE: FRESH, source FRAME, sampled now, its timer started again,
its mirror alone rewritten (R22, R28, R35), and in RUN one sample is handed to every FITTED GEARBOX and AXLE slot (R110). Its value
is 0 with the clutch known DEPRESSED or with no valid non-neutral gear; else to a GEARBOX the torque (R111), and to an AXLE the torque
times the gear's ratio over 512 times the number of FITTED AXLE slots, rounded half away from zero and negated in reverse (R112).
That the samples wait in a queue, to be taken by SAMPLE_AT_SLOT, is the MODEL'S CHOICE (notes/assumptions/7.md). An accepted
COOLANT_TEMP value in -40..210 changes its record and its mirror alone. -/
def Obligations.TorqueSampleIsApplied : Prop :=
  (∀ (s : State) (v : Int), s.live → s.supply.power ≠ .doze → -250 ≤ v → v ≤ 250 →
    let gear := s.board.gear.value
    let engaged : Prop := ¬ (s.board.clutch.age ≠ .unknown ∧ s.board.clutch.value = 1)
      ∧ s.board.gear.age ≠ .unknown ∧ ((1 ≤ gear ∧ gear ≤ 12) ∨ gear = -1 ∨ gear = -2)
    let ratio := if 0 < gear then s.tune.gearbox.forwardRatios.getD (gear.toNat - 1) 0
      else s.tune.gearbox.reverseRatios.getD ((-gear).toNat - 1) 0
    let divisor := 512 * (s.fittedWhere (fun c => decide (c.cls = .axle))).length
    ∃ t : State, s.deliverValue .engineTorque v = (true, t)
      ∧ t = { s with board := t.board, samples := t.samples, port := { s.port with mem := t.port.mem } }
      ∧ t.board = { s.board with engineTorque := ⟨v, .fresh, .frame, some s.supply.recorderTime, .running 0⟩ }
      ∧ (s.port.mem.wf → bytesKept s t (within 0x80 12))
      ∧ (s.supply.power = .run → (t.samples.drop s.samples.length).map (·.slot) =
        (s.fittedWhere (fun c => c.cls.hasResidue)).map (·.1))
      ∧ (s.supply.power = .run → t.samples.take s.samples.length = s.samples)
      ∧ (s.supply.power = .run → ∀ x ∈ t.samples.drop s.samples.length, ∀ c, s.slotAt x.slot = some c →
        (¬ engaged → x.value = 0 ∧ x.clamped = false)
          ∧ (engaged → c.cls = .gearbox → x.value = v ∧ x.clamped = false)
          ∧ (engaged → c.cls = .axle → ratio ≤ 2047 →
            let w := if gear < 0 then -x.value else x.value
            x.clamped = false ∧ 2 * (w * divisor - v * ratio).natAbs ≤ divisor
              ∧ (2 * (w * divisor - v * ratio).natAbs = divisor → (v * ratio).natAbs < (w * divisor).natAbs)))
      ∧ (s.supply.power = .hold → t.samples = s.samples))
    ∧ ∀ (s : State) (v : Int), s.live → s.port.mem.wf → s.supply.power ≠ .doze → -40 ≤ v → v ≤ 210 →
      ∃ t : State, s.deliverValue .coolantTemp v = (true, t)
        ∧ t = { s with
            board := { s.board with coolantTemp := ⟨v, .fresh, .frame, some s.supply.recorderTime, .running 0⟩ }
            port := { s.port with mem := t.port.mem } }
        ∧ bytesKept s t (within 0x8C 12)

/-! ### Slips: components -/

/-- An accepted FIT (R15) with the journal free: the lowest FREE slot takes the record, dated now, new or as imported with its
fit count plus 1; a GEARBOX or AXLE gets its live entry at the end of the bucket's list, a list of eight first losing its oldest
released entry (R138), for which the first in list order is taken, the MODEL'S CHOICE (notes/assumptions/26.md); a checkpoint that holds
the change starts; and the slip waits with the slot's number. -/
def Obligations.FitFillsTheLowestFreeSlot : Prop :=
  ∀ (s : State) (p : Slip) (cls : ComponentClass) (slot : Nat), s.holdsSlip .fit p → s.resetLow = false → s.port.mem.wf →
    s.journalFree → checkFit s p = .ok cls → s.slots[slot]? = some none → (∀ i, i < slot → s.slots[i]? ≠ some none) →
    let record : Component :=
      { position := (s.byteAt (p.inOffset + 1)).toNat
        serial := readSerial s.port.mem p.inOffset
        fittedAt := s.supply.recorderTime
        fitCount := if p.inLength = 20 then 1 else memLe s.port.mem 4 (p.inOffset + 28) + 1
        body := if p.inLength = 20 then freshBody cls else readBody s.port.mem p.inOffset cls }
    ∃ t : State, exec .fit s = .next t
      ∧ t = { s with
          slots := s.slots.set slot (some record), hires := t.hires, scanner := t.scanner, journal := t.journal
          port := { s.port with mem := t.port.mem } }
      ∧ t.hires = { s.hires with bucket := { s.hires.bucket with entries := t.hires.bucket.entries } }
      ∧ t.hires.bucket.entries = (if cls.hasResidue = true
          then appendEntry s.hires.bucket.entries ⟨slot, cls, record.position, record.serial, 0, false⟩
          else s.hires.bucket.entries)
      ∧ t.scanner = { s.scanner with state := .waitSave, held := some ⟨p, slot, 0⟩ }
      ∧ t.journal.writing.map (·.staging.slots) = some t.slots ∧ t.journal.waiting = some true
      ∧ t.byteAt 0x09 = 2 ∧ bytesKept s t scannerBytes

/-- An accepted UNFIT (R17) with the journal free. Without RETIRE, or of a class without a residue: the export of the record as it
stands, with the retired flag as RETIRE says, fills the out-buffer, the slot is FREE, its live bucket entry released, a checkpoint
that holds the change starts, and the slip waits with the slot's number and the export's length. With RETIRE of a GEARBOX or AXLE the
slot is first closed out under the parameters tuned for its class, and exported with the retired flag, an empty stack and no
candidate. Both with no sample waiting for the slot: one that waits, which it does in RUN alone, is taken before an accepted UNFIT, as
if by itself, which is the MODEL'S CHOICE (notes/assumptions/7.md and 33.md). -/
def Obligations.UnfitExportsAndFreesTheSlot : Prop :=
  (∀ (s : State) (p : Slip) (slot : Nat) (c : Component), s.holdsSlip .unfit p → s.resetLow = false → s.port.mem.wf →
    s.journalFree → (p.retire = false ∨ c.cls.hasResidue = false) → checkUnfit s p = .ok (slot, c) →
    (∀ x ∈ s.samples, x.slot ≠ slot) → (c.exportBytes p.retire).length = c.exportLength →
    ∃ t : State, exec .unfit s = .next t
      ∧ t = { s with
          slots := s.slots.set slot none, hires := t.hires
          scanner := t.scanner, journal := t.journal, port := { s.port with mem := t.port.mem } }
      ∧ t.hires = { s.hires with bucket := { s.hires.bucket with entries := t.hires.bucket.entries } }
      ∧ t.hires.bucket.entries = (if c.cls.hasResidue = true
          then s.hires.bucket.entries.map (fun e => if e.slot = slot then { e with released := true } else e)
          else s.hires.bucket.entries)
      ∧ t.scanner = { s.scanner with state := .waitSave, held := some ⟨p, slot, c.exportLength⟩ }
      ∧ t.journal.writing.map (·.staging.slots) = some t.slots ∧ t.journal.waiting = some true
      ∧ (∀ i (h : i < (c.exportBytes p.retire).length), t.byteAt (p.outOffset + i) = (c.exportBytes p.retire)[i])
      ∧ bytesKept s t (fun a => scannerBytes a ∨ within p.outOffset c.exportLength a))
    ∧ (∀ (s u : State) (p : Slip) (slot : Nat) (c e : Component), s.holdsSlip .unfit p → s.resetLow = false →
      s.port.mem.wf → s.journalFree → p.retire = true → c.cls.hasResidue = true → checkUnfit s p = .ok (slot, c) →
      (∀ x ∈ s.samples, x.slot ≠ slot) →
      s.closeOutSlot slot (if c.cls = .axle then s.tune.axle else s.tune.gearbox.cycle) = u → u.slotAt slot = some e →
      (e.exportBytes true).length = c.cls.baseLength →
      ∃ t : State, exec .unfit s = .next t
        ∧ t = { u with
            slots := u.slots.set slot none
            hires := { u.hires with bucket := { u.hires.bucket with
              entries := u.hires.bucket.entries.map (fun e => if e.slot = slot then { e with released := true } else e) } }
            scanner := { s.scanner with state := .waitSave, held := some ⟨p, slot, c.cls.baseLength⟩ }
            journal := t.journal, port := { u.port with mem := t.port.mem } }
        ∧ (∀ r, e.body.residue = some r → r.stack = [] ∧ r.candidate = none)
        ∧ t.journal.writing.map (·.staging.slots) = some t.slots ∧ t.journal.waiting = some true
        ∧ (∀ i (h : i < (e.exportBytes true).length), t.byteAt (p.outOffset + i) = (e.exportBytes true)[i])
        ∧ bytesKept s t (fun a => scannerBytes a ∨ within p.outOffset c.cls.baseLength a))
    ∧ ∀ (s : State) (p : Slip) (slot : Nat) (found : Nat × Component), s.holdsSlip .unfit p → s.unfitSlot p = some slot →
      let settled := s.takeWaiting (fun x => decide (x.slot = slot))
      checkUnfit settled p = .ok found → exec .unfit s = exec .unfit settled

/-- The grading of a range: the weight of its bin, the quotient by the bin width capped at 15 (R119). Closure (R118): with the four
newest points A, B, C, D and |B - C| at most |A - B| and at most |C - D|, B and C go, for twice the weight of |B - C|, and closure goes
on; else, and with fewer than four points, it stops. The close-out of a slot (R124): its candidate is pushed with closure, each
adjacent pair left is a half cycle, each increment lands in the damage and in the current record's delta, and the stack and candidate
end empty and absent; with 16 points and a candidate the oldest is first dropped as a half cycle, a residue drop is counted and
RESIDUE is set (R117, R120). -/
def Obligations.CloseOutSettlesTheResidue : Prop :=
  (∀ (p : CycleTune) (range : Nat), weightOf p range = p.weights.getD (min 15 (range / p.width)) 0)
    ∧ (∀ (p : CycleTune) (stack : List Int), stack.length < 4 → closure p stack = (stack, []))
    ∧ (∀ (p : CycleTune) (older : List Int) (a b c d : Int),
      let whole := older ++ [a, b, c, d]
      let left := closure p (older ++ [a, d])
      let fits := (b - c).natAbs ≤ (a - b).natAbs ∧ (b - c).natAbs ≤ (c - d).natAbs
      (fits → closure p whole = (left.1, 2 * weightOf p (b - c).natAbs :: left.2)) ∧ (¬ fits → closure p whole = (whole, [])))
    ∧ (∀ (p : CycleTune) (a b : Int) (rest : List Int), halfCycles p [] = [] ∧ halfCycles p [a] = []
      ∧ halfCycles p (a :: b :: rest) = weightOf p (a - b).natAbs :: halfCycles p (b :: rest))
    ∧ (∀ (s : State) (slot : Nat) (c : Component) (r : Residue) (p : CycleTune), s.slotAt slot = some c →
      c.body.residue = some r → r.stack.length < Config.stackLimit →
      let pushed : List Int × List Nat := match r.candidate with
        | some k => closure p (r.stack ++ [k.value])
        | none => (r.stack, [])
      let amounts := pushed.2 ++ halfCycles p pushed.1
      ∃ t : State, s.closeOutSlot slot p = t
        ∧ t = { s with slots := t.slots, hires := t.hires }
        ∧ (∀ i, i ≠ slot → t.slotAt i = s.slotAt i)
        ∧ (t.slotAt slot).bind (fun d => d.body.residue) =
          some ⟨amounts.foldl (satAdd Config.damageCeiling) r.damage, min Config.eventCeiling r.drops, [], none⟩
        ∧ t.hires = s.hires.mapEntries (fun l => amounts.foldl (fun k n => addDelta slot n k) l))
    ∧ ∀ (s : State) (slot : Nat) (c : Component) (r : Residue) (p : CycleTune) (k : Candidate), s.slotAt slot = some c →
      c.body.residue = some r → 16 ≤ r.stack.length → r.candidate = some k →
      let left := pushed p r.stack k.value
      residueBecomes s (s.closeOutSlot slot p) slot s.samples [] none (left.2.1 ++ halfCycles p left.1) 1

/-- SAMPLE_AT_SLOT in RUN takes the oldest sample of its slot there; outside RUN, where none waits (notes/assumptions/33.md), nothing is
taken. That samples wait in a queue at all is the MODEL'S CHOICE (notes/assumptions/7.md). At a GEARBOX or AXLE slot, under the gate of
its class: the first sample becomes the first point, and one point takes a candidate a gate away from it (R114). A candidate follows its
extreme; when the channel turns back from it by the gate, it is pushed, with the overflow of a full stack (its half cycle, a residue drop,
RESIDUE) before and closure after, each increment landing in the damage and in the current record's delta, and the sample becomes the
candidate the other way (R115, R117, R118). Two points or more and no candidate: a sample beyond the newest point extends it, with
closure, and one a gate back from it becomes the candidate (R116). Nothing else changes (R121). -/
def Obligations.SamplesPassTheGate : Prop :=
  (∀ (s : State) (slot : Fin 8) (x : SlotSample) (c : Component) (r : Residue), s.powered = true →
    s.samples.find? (fun y => decide (y.slot = slot.val)) = some x → x.clamped = false → s.slotAt slot = some c →
    c.body.residue = some r →
    let p := if c.cls = .axle then s.tune.axle else s.tune.gearbox.cycle
    let g : Int := p.gate
    let took (stack : List Int) (candidate : Option Candidate) (amounts : List Nat) (drops : Nat) : Prop :=
      ∃ t : State, exec (.sampleAtSlot slot) s = .next t
        ∧ residueBecomes s t slot (s.samples.erase x) stack candidate amounts drops
    (s.supply.power ≠ .run → exec (.sampleAtSlot slot) s = .next s) ∧ (s.supply.power = .run → 1 ≤ g →
      (r.stack = [] → took [x.value] none [] 0)
        ∧ (∀ l, r.stack = [l] → r.candidate = none →
          (l + g ≤ x.value → took [l] (some ⟨x.value, .rising⟩) [] 0)
            ∧ (x.value ≤ l - g → took [l] (some ⟨x.value, .falling⟩) [] 0)
            ∧ (l - g < x.value → x.value < l + g → took [l] none [] 0))
        ∧ (∀ v, r.stack ≠ [] → r.candidate = some ⟨v, .rising⟩ →
          (v - g < x.value → took r.stack (some ⟨max v x.value, .rising⟩) [] 0)
            ∧ (x.value ≤ v - g → let after := pushed p r.stack v
              took after.1 (some ⟨x.value, .falling⟩) after.2.1 after.2.2))
        ∧ (∀ v, r.stack ≠ [] → r.candidate = some ⟨v, .falling⟩ →
          (x.value < v + g → took r.stack (some ⟨min v x.value, .falling⟩) [] 0)
            ∧ (v + g ≤ x.value → let after := pushed p r.stack v
              took after.1 (some ⟨x.value, .rising⟩) after.2.1 after.2.2))
        ∧ (∀ older o l, r.stack = older ++ [o, l] → r.candidate = none →
          let extended := closure p (older ++ [o, x.value])
          (o < l → l < x.value → took extended.1 none extended.2 0)
            ∧ (o < l → x.value ≤ l - g → took r.stack (some ⟨x.value, .falling⟩) [] 0)
            ∧ (o < l → l - g < x.value → x.value ≤ l → took r.stack none [] 0)
            ∧ (l < o → x.value < l → took extended.1 none extended.2 0)
            ∧ (l < o → l + g ≤ x.value → took r.stack (some ⟨x.value, .rising⟩) [] 0)
            ∧ (l < o → l ≤ x.value → x.value < l + g → took r.stack none [] 0))))
    ∧ (∀ (p : CycleTune) (stack : List Int) (v : Int),
      (stack.length < 16 → pushed p stack v = ((closure p (stack ++ [v])).1, (closure p (stack ++ [v])).2, 0))
        ∧ (∀ p0 p1 rest, stack = p0 :: p1 :: rest → 16 ≤ stack.length → pushed p stack v =
          ((closure p (p1 :: rest ++ [v])).1,
            p.weights.getD (min 15 ((p0 - p1).natAbs / p.width)) 0 :: (closure p (p1 :: rest ++ [v])).2, 1)))
    ∧ (∀ (s : State) (slot : Fin 8), s.samples.find? (fun y => decide (y.slot = slot.val)) = none →
      exec (.sampleAtSlot slot) s = .next s)
    ∧ ∀ (s : State) (slot : Fin 8) (x : SlotSample), s.powered = true → s.supply.power = .run →
      s.samples.find? (fun y => decide (y.slot = slot.val)) = some x →
      exec (.sampleAtSlot slot) s = .next ({ s with samples := s.samples.erase x }.takeSample x)
        ∧ ∀ test : SlotSample → Bool, (s.samples.find? test = none → s.takeWaiting test = s)
          ∧ (s.samples.find? test = some x →
            s.takeWaiting test = ({ s with samples := s.samples.erase x }.takeSample x).takeWaiting test)
          ∧ ∀ u : State, u.supply.power ≠ .run → u.takeWaiting test = u

/-- PEEK (R19, R36, R139): the target's record is copied to the out-buffer, the slip comes back DONE with the length copied,
and a target that is missing, too long or malformed is refused in order. -/
def Obligations.PeekCopiesItsTarget : Prop :=
  ∀ (s : State) (p : Slip), s.holdsSlip .peek p →
    (p.inLength ≠ 4 → exec .peek s = .next (s.returnSlip p ⟨.badLength, 0, 0⟩))
      ∧ (p.inLength = 4 → readPeekTarget s.port.mem p.inOffset = none →
        exec .peek s = .next (s.returnSlip p ⟨.badSlotSpec, 0, 0⟩))
      ∧ (p.inLength = 4 → readPeekTarget s.port.mem p.inOffset = some .openHire → s.hires.hire = none →
        exec .peek s = .next (s.returnSlip p ⟨.noHire, 0, 0⟩))
      ∧ (∀ spec, p.inLength = 4 → readPeekTarget s.port.mem p.inOffset = some (.slot spec) → s.findSpec spec = none →
        exec .peek s = .next (s.returnSlip p ⟨.noSuchSlot, 0, 0⟩))
      ∧ (∀ target bytes detail, p.inLength = 4 → readPeekTarget s.port.mem p.inOffset = some target →
        ((target = .quantities ∧ bytes = s.board.bytes ∧ detail = 0)
          ∨ (target = .bucket ∧ bytes = s.hires.bucket.bytes s.supply.recorderTime
            ∧ detail = s.hires.bucket.entries.length)
          ∨ (∃ h, target = .openHire ∧ s.hires.hire = some h ∧ bytes = h.bytes s.supply.recorderTime
            ∧ detail = h.entries.length)
          ∨ (∃ spec c, target = .slot spec ∧ s.findSpec spec = some (detail, c) ∧ bytes = c.exportBytes false)) →
        (bytes.length ≤ p.outLength → exec .peek s =
          .next (State.returnSlip { s with port := { s.port with mem := memPutAll s.port.mem p.outOffset bytes } } p
            ⟨.done, detail, bytes.length⟩))
          ∧ (p.outLength < bytes.length → exec .peek s = .next (s.returnSlip p ⟨.shortSpace, 0, 0⟩)))

/-- An export written by UNFIT or PEEK is read back by FIT unchanged, in every class, and passes every import check
(R174, R13, R14). -/
def Obligations.ExportImportsUnchanged : Prop :=
  ∀ (m : Memory) (a : Nat) (c : Component), m.wf → c.travels → a + c.exportLength ≤ Config.memorySize →
    let m' := memPutAll m a (c.exportBytes false)
    (c.exportBytes false).length = c.exportLength
      ∧ headerGood m' a c.cls = true ∧ (memGet m' (a + 1)).toNat = c.position ∧ readSerial m' a = c.serial
      ∧ memLe m' 4 (a + 28) = c.fitCount ∧ importRefusal m' a c.exportLength c.cls = none ∧ readBody m' a c.cls = c.body

/-- The checks that refuse a slip, in their order, with nothing else changed. FIT, UNFIT and TUNE outside DEPOT: NOT-IN-DEPOT (R12, R16,
R159). FIT (R12): BAD-LENGTH below a header; BAD-SLOT-SPEC for a class, position, serial length or character out of range; SLOT-TAKEN with
the slot's number. An import (R13, R14, R173): BAD-LENGTH below 40 bytes; BAD-IMPORT for the retired flag, another body class (one outside
the class table among them, the MODEL'S CHOICE, notes/assumptions/32.md), points or a candidate of a class that has none, an unknown
direction, more than 16 points; BAD-LENGTH for another length than its class and points give; BAD-IMPORT for a fit count of 0 or 2^32 - 1
or for bad content. UNFIT (R16): BAD-LENGTH, BAD-SLOT-SPEC, NO-SUCH-SLOT, SHORT-SPACE by the export size, in RUN that of the record once
the samples waiting for its slot are taken (the MODEL'S CHOICE, notes/assumptions/7.md), else as it stands (R6), while the refusal leaves
them waiting. HIRE-OPEN (R133): BAD-LENGTH, IN-DEPOT, HIRE-OPEN-ALREADY with the low half of the number, SHORT-SPACE. HIRE-CLOSE (R135):
BAD-LENGTH, NO-HIRE, SHORT-SPACE. DEPOT-OUT (R158): BAD-LENGTH, NOT-IN-DEPOT. TUNE (R159): BAD-TUNE for a length below its code's, an
unknown code, another length than the section's, or a bad field; ALREADY-TUNED for a section tuned this visit. -/
def Obligations.SlipsAreRefusedByTheirChecks : Prop :=
  ∀ (s : State) (p : Slip),
    let byte (i : Nat) : Nat := (s.byteAt (p.inOffset + i)).toNat
    let refused (c : Instr) (status : Status) (detail : Nat) : Prop := exec c s = .next (s.returnSlip p ⟨status, detail, 0⟩)
    let placed (cls : ComponentClass) (position : Nat) : Prop := 1 ≤ position ∧ position ≤ if cls = .axle then 3 else 1
    (∀ kind, (kind = .fit ∨ kind = .unfit ∨ kind = .tune) → s.holdsSlip kind p → s.depot.state = .normal →
      refused (commandOf kind) .notInDepot 0)
      ∧ (s.holdsSlip .hireOpen p →
        (p.inLength ≠ 4 → refused .hireOpen .badLength 0)
          ∧ (p.inLength = 4 → s.depot.state = .depot → refused .hireOpen .inDepot 0)
          ∧ (∀ h, p.inLength = 4 → s.depot.state = .normal → s.hires.hire = some h →
            refused .hireOpen .hireOpenAlready (h.number % 65536))
          ∧ (p.inLength = 4 → s.depot.state = .normal → s.hires.hire = none →
            p.outLength < 104 + 32 * s.hires.bucket.entries.length → refused .hireOpen .shortSpace 0))
      ∧ (s.holdsSlip .hireClose p →
        (p.inLength ≠ 0 → refused .hireClose .badLength 0)
          ∧ (p.inLength = 0 → s.hires.hire = none → refused .hireClose .noHire 0)
          ∧ (∀ h, p.inLength = 0 → s.hires.hire = some h → p.outLength < 104 + 32 * h.entries.length →
            refused .hireClose .shortSpace 0))
      ∧ (s.holdsSlip .depotOut p → (p.inLength ≠ 0 → refused .depotOut .badLength 0)
        ∧ (p.inLength = 0 → s.depot.state = .normal → refused .depotOut .notInDepot 0))
      ∧ (s.holdsSlip .fit p → s.depot.state = .depot →
        (p.inLength < 20 → refused .fit .badLength 0)
          ∧ (20 ≤ p.inLength → classOfCode (byte 0) = none → refused .fit .badSlotSpec 0)
          ∧ (∀ cls, 20 ≤ p.inLength → classOfCode (byte 0) = some cls →
            (¬ placed cls (byte 1) ∨ byte 2 = 0 ∨ 16 < byte 2
              ∨ ∃ i, i < byte 2 ∧ (byte (4 + i) < 0x20 ∨ 0x7E < byte (4 + i))) → refused .fit .badSlotSpec 0)
          ∧ (∀ cls, 20 ≤ p.inLength → classOfCode (byte 0) = some cls → headerGood s.port.mem p.inOffset cls = true →
            (∀ (slot : Nat) (c : Component), s.slots[slot]? = some (some c) → c.cls = cls → c.position = byte 1 →
              distinctPlaces s.slots → refused .fit .slotTaken slot)
              ∧ ((∀ (slot : Nat) (c : Component), s.slots[slot]? = some (some c) → ¬ (c.cls = cls ∧ c.position = byte 1)) →
                20 < p.inLength →
                let fitCount := memLe s.port.mem 4 (p.inOffset + 28)
                let whole : Prop := 40 ≤ p.inLength ∧ byte 32 = 0 ∧ classOfCode (byte 36) = some cls
                  ∧ (cls.hasResidue = true ∨ byte 37 = 0 ∧ byte 38 = 0) ∧ byte 38 ≤ 2 ∧ byte 37 ≤ 16
                (p.inLength < 40 → refused .fit .badLength 0)
                  ∧ (40 ≤ p.inLength → byte 32 ≠ 0 → refused .fit .badImport 0)
                  ∧ (40 ≤ p.inLength → ¬ whole → refused .fit .badImport 0)
                  ∧ (whole → p.inLength ≠ cls.baseLength + 2 * byte 37 → refused .fit .badLength 0)
                  ∧ (whole → p.inLength = cls.baseLength + 2 * byte 37 →
                    (fitCount = 0 ∨ fitCount = 2 ^ 32 - 1 ∨ (readBody s.port.mem p.inOffset cls).importable = false) →
                    refused .fit .badImport 0))))
      ∧ (s.holdsSlip .unfit p → s.depot.state = .depot →
        (p.inLength ≠ 4 → refused .unfit .badLength 0)
          ∧ (p.inLength = 4 → (1 < byte 0 ∨ byte 0 = 0 ∧ 7 < byte 1
            ∨ byte 0 = 1 ∧ ∀ cls, classOfCode (byte 2) = some cls → ¬ placed cls (byte 3)) → refused .unfit .badSlotSpec 0)
          ∧ (p.inLength = 4 → byte 0 = 0 → byte 1 ≤ 7 → s.slotAt (byte 1) = none → refused .unfit .noSuchSlot 0)
          ∧ (∀ cls, p.inLength = 4 → byte 0 = 1 → classOfCode (byte 2) = some cls → placed cls (byte 3) →
            (∀ (slot : Nat) (c : Component), s.slots[slot]? = some (some c) → ¬ (c.cls = cls ∧ c.position = byte 3)) →
            refused .unfit .noSuchSlot 0)
          ∧ (∀ (slot : Nat) (c : Component), p.inLength = 4 → (byte 0 = 0 ∧ byte 1 = slot ∧ slot ≤ 7
              ∨ byte 0 = 1 ∧ classOfCode (byte 2) = some c.cls ∧ placed c.cls (byte 3) ∧ byte 3 = c.position
                ∧ distinctPlaces s.slots) →
            s.slotAt slot = some c →
            ∀ e, (s.takeWaiting (fun x => decide (x.slot = slot))).slotAt slot = some e →
            p.outLength < e.cls.baseLength + (if p.retire = true then 0 else 2 * e.body.points) →
            refused .unfit .shortSpace 0))
      ∧ (s.holdsSlip .tune p → s.depot.state = .depot →
        (p.inLength < 4 → refused .tune .badTune 0)
          ∧ (4 ≤ p.inLength → sectionOfCode (byte 0) = none → refused .tune .badTune 0)
          ∧ (∀ sec, 4 ≤ p.inLength → sectionOfCode (byte 0) = some sec →
            (sec ∈ s.depot.tuned → refused .tune .alreadyTuned 0)
              ∧ (sec ∉ s.depot.tuned → p.inLength ≠ sec.length → refused .tune .badTune 0)
              ∧ (sec ∉ s.depot.tuned → p.inLength = sec.length → readSection s.tune s.port.mem p.inOffset sec = none →
                refused .tune .badTune 0)))

/-! ### Slips: hires and the depot -/

/-- An accepted HIRE-OPEN (R134) with the journal free: the bucket record fills the out-buffer, the bucket is cleared with live
entries for the FITTED GEARBOX and AXLE slots, the hire is open with the same entries, the control block shows it, and the slip
waits for the checkpoint that holds the change. -/
def Obligations.HireOpenHandsOverTheBucket : Prop :=
  ∀ (s : State) (p : Slip), s.holdsSlip .hireOpen p → s.resetLow = false → s.port.mem.wf → s.journalFree →
    p.inLength = 4 → s.depot.state = .normal → s.hires.hire = none →
    (s.hires.bucket.bytes s.supply.recorderTime).length = 104 + 32 * s.hires.bucket.entries.length →
    104 + 32 * s.hires.bucket.entries.length ≤ p.outLength →
    let number := memLe s.port.mem 4 p.inOffset
    let record := s.hires.bucket.bytes s.supply.recorderTime
    let live := (s.fittedWhere (fun c => c.cls.hasResidue)).map
      (fun e => (⟨e.1, e.2.cls, e.2.position, e.2.serial, 0, false⟩ : DamageEntry))
    ∃ t : State, exec .hireOpen s = .next t
      ∧ t = { s with
          hires := ⟨some ⟨number, s.supply.recorderTime, .zero, live⟩, ⟨s.supply.recorderTime, .zero, live⟩,
            s.hires.lastClosed⟩
          scanner := t.scanner, journal := t.journal, port := { s.port with mem := t.port.mem } }
      ∧ t.scanner = { s.scanner with state := .waitSave, held := some ⟨p, live.length, record.length⟩ }
      ∧ t.journal.writing.map (·.staging.hire) = some t.hires.hire ∧ t.journal.waiting = some true
      ∧ (∀ i (h : i < record.length), t.byteAt (p.outOffset + i) = record[i])
      ∧ t.byteAt 0x08 = 1 ∧ memLe t.port.mem 4 0x10 = number
      ∧ bytesKept s t (fun a => scannerBytes a ∨ a = 0x08 ∨ within 0x10 4 a ∨ within p.outOffset record.length a)

/-- An accepted HIRE-CLOSE (R136) with the journal free: the summary fills the out-buffer, no hire is open, its number is the
last closed and stays shown, the bucket is as it was, and the slip waits. -/
def Obligations.HireCloseReturnsTheSummary : Prop :=
  ∀ (s : State) (p : Slip) (h : Hire), s.holdsSlip .hireClose p → s.resetLow = false → s.port.mem.wf → s.journalFree →
    p.inLength = 0 → s.hires.hire = some h →
    (h.bytes s.supply.recorderTime).length = 104 + 32 * h.entries.length →
    104 + 32 * h.entries.length ≤ p.outLength → h.number < 2 ^ 32 →
    let record := h.bytes s.supply.recorderTime
    ∃ t : State, exec .hireClose s = .next t
      ∧ t = { s with
          hires := ⟨none, s.hires.bucket, h.number⟩
          scanner := t.scanner, journal := t.journal, port := { s.port with mem := t.port.mem } }
      ∧ t.scanner = { s.scanner with state := .waitSave, held := some ⟨p, h.entries.length, record.length⟩ }
      ∧ t.journal.writing.map (·.staging.hire) = some none ∧ t.journal.waiting = some true
      ∧ (∀ i (b : i < record.length), t.byteAt (p.outOffset + i) = record[i])
      ∧ t.byteAt 0x08 = 0 ∧ memLe t.port.mem 4 0x10 = h.number
      ∧ bytesKept s t (fun a => scannerBytes a ∨ a = 0x08 ∨ within 0x10 4 a ∨ within p.outOffset record.length a)

/-- DEPOT-IN. The five checks of R155 in their order, each refusing without counting a code: BAD-LENGTH, LOCKED-OUT, DEPOT-ALREADY,
ENGINE-RUNNING, and HIRE-OPEN-ALREADY with the low 16 bits of the open hire's number. Accepted: DEPOT, no wrong code counted, no
section tuned, 30 minutes on the timer, the control block's depot field rewritten, and the slip back DONE at once. A wrong code
(R156): it is counted, its refusal carries the count, and the third sets the lockout with the DEPOT notice. -/
def Obligations.DepotInIsJudgedByItsCode : Prop :=
  ∀ (s : State) (p : Slip), s.holdsSlip .depotIn p →
    (p.inLength ≠ 4 → exec .depotIn s = .next (s.returnSlip p ⟨.badLength, 0, 0⟩)) ∧ (p.inLength = 4 →
    (s.resetLow = false → s.port.mem.wf → s.depot.lockout = false → s.depot.state = .normal →
      (s.monitor.state = .off ∨ s.monitor.state = .armed) → s.hires.hire = none →
      memLe s.port.mem 4 p.inOffset = s.tune.code →
      ∃ u : State, exec .depotIn s = .next (u.returnSlip p ⟨.done, 0, 0⟩)
        ∧ u = { s with depot := ⟨.depot, 0, false, [], .running 1800000⟩, port := { s.port with mem := u.port.mem } }
        ∧ u.byteAt 0x06 = 1 ∧ u.byteAt 0x07 = 0 ∧ bytesKept s u (within 0x06 2))
      ∧ (s.depot.lockout = true → exec .depotIn s = .next (s.returnSlip p ⟨.lockedOut, 0, 0⟩))
      ∧ (s.depot.lockout = false → s.depot.state = .depot →
        exec .depotIn s = .next (s.returnSlip p ⟨.depotAlready, 0, 0⟩))
      ∧ (s.depot.lockout = false → s.depot.state = .normal →
        (s.monitor.state = .cranking ∨ s.monitor.state = .catching ∨ s.monitor.state = .running) →
        exec .depotIn s = .next (s.returnSlip p ⟨.engineRunning, 0, 0⟩))
      ∧ (∀ h, s.depot.lockout = false → s.depot.state = .normal → (s.monitor.state = .off ∨ s.monitor.state = .armed) →
        s.hires.hire = some h → exec .depotIn s = .next (s.returnSlip p ⟨.hireOpenAlready, h.number % 65536, 0⟩))
      ∧ (s.depot.lockout = false → s.depot.state = .normal → (s.monitor.state = .off ∨ s.monitor.state = .armed) →
        s.hires.hire = none → memLe s.port.mem 4 p.inOffset ≠ s.tune.code →
        ∃ u : State, exec .depotIn s = .next (u.returnSlip p ⟨.wrongCode, s.depot.wrongCodes + 1, 0⟩)
          ∧ (s.depot.wrongCodes < 2 → u = { s with depot := { s.depot with wrongCodes := s.depot.wrongCodes + 1 } })
          ∧ (2 ≤ s.depot.wrongCodes → s.resetLow = false →
            u = { s with
              depot := { s.depot with wrongCodes := s.depot.wrongCodes + 1, lockout := true }
              port := { s.port with mem := u.port.mem, notice := s.port.notice ||| 0x400 } }
            ∧ (s.port.mem.wf → u.byteAt 0x07 = 1 ∧ bytesKept s u (within 0x06 2)))))

/-- An accepted DEPOT-OUT (R158): NORMAL at acceptance, the timer stopped, no notice of DEPOT, and the slip waits: attached to the
checkpoint it started with the journal free, unattached with another pending while a page is written or in HOLD, and unattached with
TORN and the retry timer at 10 s where the newest sequence is 2^32 - 1 and none can be written (R171). The expiry of the depot timer
in DEPOT (R157): NORMAL, the timer stopped, the DEPOT notice, a checkpoint; what the visit tuned stays. The checkpoint starts with
the journal free; while a page is written or in HOLD another is left pending; with the sequence exhausted TORN too, and the retry
timer. Outside DEPOT the expiry changes nothing. In DEPOT a CRANK rise that enters CRANKING from ARMED (R77), and ENGINE_SPEED at the
run threshold that enters RUNNING from OFF or ARMED without a crank (R76), leave DEPOT in the same way (R157), beside what the monitor
does: that the attempt or the UNOBSERVED start it counts is in the checkpoint the leave triggers is the MODEL'S CHOICE
(notes/assumptions/30.md). -/
def Obligations.DepotIsLeft : Prop :=
  (∀ (s : State) (p : Slip), s.holdsSlip .depotOut p → s.resetLow = false → s.port.mem.wf → p.inLength = 0 →
    s.depot.state = .depot → (s.journalFree ∨ s.journal.writing ≠ none ∨ s.supply.power = .hold) →
    ∃ t : State, exec .depotOut s = .next t
      ∧ t = { s with
          depot := { s.depot with state := .normal, timer := .stopped }
          scanner := t.scanner, journal := t.journal, port := { s.port with mem := t.port.mem } }
      ∧ t.scanner = { s.scanner with state := .waitSave, held := some ⟨p, 0, 0⟩ }
      ∧ (s.journalFree → t.journal.startedFrom s ∧ t.journal.waiting = some true)
      ∧ ((s.journal.writing ≠ none ∨ s.supply.power = .hold) →
        t.journal = { s.journal with another := true, waiting := some false })
      ∧ t.byteAt 0x06 = 0 ∧ bytesKept s t (fun a => scannerBytes a ∨ within 0x06 2 a))
    ∧ (∀ (s : State) (p : Slip), s.holdsSlip .depotOut p → s.resetLow = false → s.port.mem.wf → p.inLength = 0 →
      s.depot.state = .depot → s.sequenceSpent →
      ∃ t : State, exec .depotOut s = .next t
        ∧ t = { s with
            depot := { s.depot with state := .normal, timer := .stopped }
            scanner := { s.scanner with state := .waitSave, held := some ⟨p, 0, 0⟩ }
            journal := s.givenUp (some false)
            port := { s.port with mem := t.port.mem, notice := s.port.notice ||| 0x04 } }
        ∧ t.byteAt 0x06 = 0 ∧ bytesKept s t (fun a => scannerBytes a ∨ within 0x06 2 a))
    ∧ (∀ (s : State) (ms : Nat), s.live → s.port.mem.wf → s.depot.state = .depot → s.depot.timer = .running ms →
      (s.journalFree ∨ s.journal.writing ≠ none ∨ s.supply.power = .hold) →
      ∃ t : State, exec .depotTimerExpiry s = .next t
        ∧ t = { s with
            depot := { s.depot with state := .normal, timer := .stopped }
            journal := t.journal
            port := { s.port with mem := t.port.mem, notice := s.port.notice ||| 0x400 } }
        ∧ (s.journalFree → t.journal.startedFrom s ∧ t.journal.waiting = s.journal.waiting.map (fun _ => true))
        ∧ ((s.journal.writing ≠ none ∨ s.supply.power = .hold) → t.journal = { s.journal with another := true })
        ∧ t.byteAt 0x06 = 0 ∧ bytesKept s t (within 0x06 2))
    ∧ (∀ (s : State) (ms : Nat), s.live → s.port.mem.wf → s.depot.state = .depot → s.depot.timer = .running ms →
      s.sequenceSpent →
      ∃ t : State, exec .depotTimerExpiry s = .next t
        ∧ t = { s with
            depot := { s.depot with state := .normal, timer := .stopped }
            journal := s.givenUp (s.journal.waiting.map (fun _ => false))
            port := { s.port with mem := t.port.mem, notice := s.port.notice ||| 0x404 } }
        ∧ t.byteAt 0x06 = 0 ∧ bytesKept s t (within 0x06 2))
    ∧ (∀ s : State, s.depot.state = .normal → exec .depotTimerExpiry s = .next s)
    ∧ ∀ s : State, s.live → s.port.mem.wf → s.supply.power = .run → s.depot.state = .depot →
      (s.journalFree ∨ s.journal.writing ≠ none ∨ s.sequenceSpent) →
      let leaves (t : State) : Prop :=
        t.depot = { s.depot with state := .normal, timer := .stopped }
          ∧ t.port.notice = s.port.notice ||| (if s.sequenceSpent then 0x404 else 0x400)
          ∧ (s.journalFree → t.journal.startedFrom { s with slots := t.slots, hires := t.hires }
            ∧ t.journal.waiting = s.journal.waiting.map (fun _ => true))
          ∧ (s.journal.writing ≠ none → t.journal = { s.journal with another := true })
          ∧ (s.sequenceSpent → t.journal = s.givenUp (s.journal.waiting.map (fun _ => false)))
          ∧ t.byteAt 0x06 = 0 ∧ bytesKept s t (within 0x05 3)
      (s.tune.supply.crankSource = .line → s.monitor.state = .armed → s.lines.crank.pendingLevel = some true →
        ∃ t : State, exec (.debounceExpiry .crank) s = .next t
          ∧ t = { s with
              lines := { s.lines with crank := { s.lines.crank with level := true, pendingLevel := none } }
              slots := t.slots, depot := t.depot, journal := t.journal
              monitor := { s.monitor with
                state := .cranking, crankTimer := .running 0, longMark := false, evidence := some .line
                firstReading := false, caught := decide s.speedAtRun }
              port := { s.port with mem := t.port.mem, notice := t.port.notice } }
          ∧ slotGains s t .starter (fun b => match b with
              | .starter b => .starter { b with attempts := min Config.eventCeiling (b.attempts + 1) }
              | b => b)
          ∧ leaves t ∧ t.byteAt 0x05 = 2)
        ∧ (s.speedAtRun → s.tune.start.stop ≤ s.tune.start.run → (s.monitor.state = .off ∨ s.monitor.state = .armed) →
          let counted (c : StartCounts) : StartCounts := { c with unobserved := min Config.eventCeiling (c.unobserved + 1) }
          ∃ t : State, s.speedHandOn = t
            ∧ t = { s with
                slots := t.slots, hires := t.hires, depot := t.depot, journal := t.journal
                monitor := { s.monitor with
                  state := .running, stopTimer := .stopped
                  firstReading := if s.board.engineSpeed.age = .fresh then false else s.monitor.firstReading }
                supply := if s.monitor.state = .off then { s.supply with doze := .stopped } else s.supply
                port := { s.port with mem := t.port.mem, notice := t.port.notice } }
            ∧ (s.monitor.firstReading = true → t.slots = s.slots ∧ t.hires = s.hires)
            ∧ (s.monitor.firstReading = false →
              slotGains s t .engine (fun b => match b with
                | .engine b => .engine { b with starts := counted b.starts }
                | b => b)
              ∧ registerGains s t (fun c => { c with starts := counted c.starts }))
            ∧ leaves t ∧ t.byteAt 0x05 = 4)

/-- An accepted TUNE (R161): close-out under the old parameters where the gate or bin width of the class changes, the section
replaced by its clamped fields, its mark set, its immediate effects, and the slip back DONE, or DONE-CLAMPED with the number
of fields that clamping changed. A sample that waits at a slot of the class a GEARBOX or AXLE section tunes, fed before the TUNE, is
taken before it, under the old parameters (R126, R127): that it still waits, in RUN, is the MODEL'S CHOICE (notes/assumptions/7.md), and
so is that in DOZE and HOLD it has been taken before the part left RUN (notes/assumptions/33.md).
The effect of GEARBOX (R21): a known gear beyond the tuned counts becomes SLIPPING, its state, source, time and timer kept, its mirror
rewritten and the change handed on: in RUN with ENGINE_TORQUE FRESH a sample of 0 for each FITTED GEARBOX and AXLE slot. That of a
PULSE section that lowers the fault limit (R49): each counter above the new limit comes down to it, and a GOOD channel that is then at
it enters FAULTED, with CHANNEL. How the nine sections are read (R160, 12.9): each field from its place, clamped to its range, one that
this changes counted; a ratio beyond its clamped count kept as written and not counted; the flags by their bits, the code and the
weights as written. SUPPLY is refused for a voltage or source outside its table; START, ENGINE and GEARBOX where a structural rule
fails for the fields as written or as clamped. -/
def Obligations.TuneTakesItsFourSteps : Prop :=
  (∀ (s : State) (p : Slip) (sec : TuneSection) (new : TuneSet) (changed : Nat), s.holdsSlip .tune p →
    s.depot.state = .depot → sectionOfCode (s.byteAt p.inOffset).toNat = some sec → sec ∉ s.depot.tuned →
    p.inLength = sec.length → readSection s.tune s.port.mem p.inOffset sec = some (new, changed) →
    let waits (cls : ComponentClass) (x : SlotSample) : Bool := match s.slotAt x.slot with
      | some c => decide (c.cls = cls)
      | none => false
    let settled (cls : ComponentClass) : State := s.takeWaiting (waits cls)
    let closed := match sec with
      | .gearbox => if s.tune.gearbox.cycle.gate ≠ new.gearbox.cycle.gate ∨ s.tune.gearbox.cycle.width ≠ new.gearbox.cycle.width
          then (settled .gearbox).closeOutClass .gearbox s.tune.gearbox.cycle else settled .gearbox
      | .axle => if s.tune.axle.gate ≠ new.axle.gate ∨ s.tune.axle.width ≠ new.axle.width
          then (settled .axle).closeOutClass .axle s.tune.axle else settled .axle
      | _ => s
    let replaced : State := { closed with tune := new, depot := { closed.depot with tuned := sec :: closed.depot.tuned } }
    let after := match sec with
      | .gearbox => replaced.substituteSlipping
      | .pulse => if new.pulse.limit < s.tune.pulse.limit then replaced.lowerLimit new.pulse.limit else replaced
      | _ => replaced
    exec .tune s = .next (after.returnSlip p ⟨if changed = 0 then .done else .doneClamped, changed, 0⟩))
    ∧ (∀ s : State, s.live → s.port.mem.wf →
      let r := s.board.gear
      let beyond : Prop := r.age ≠ .unknown ∧ ((1 ≤ r.value ∧ r.value ≤ 12 ∧ (s.tune.gearbox.forward : Int) < r.value)
        ∨ ((r.value = -1 ∨ r.value = -2) ∧ (s.tune.gearbox.reverse : Int) < -r.value))
      (¬ beyond → s.substituteSlipping = s)
        ∧ (beyond →
          ∃ t : State, s.substituteSlipping = t
            ∧ t = { s with
                board := { s.board with gear := { r with value := 13 } }
                samples := if s.supply.power = .run ∧ s.board.engineTorque.age = .fresh
                  then s.samples ++ (s.fittedWhere (fun c => c.cls.hasResidue)).map (fun e => ⟨e.1, 0, false⟩) else s.samples
                port := { s.port with mem := t.port.mem } }
            ∧ t.byteAt 0xA4 = 13 ∧ t.byteAt 0xA5 = 0 ∧ bytesKept s t (within 0xA4 12)))
    ∧ (∀ (s : State) (limit : Nat), s.live →
      let faults (c : ChannelState) : Prop := c.health = .good ∧ limit ≤ c.counter
      ∃ t : State, s.lowerLimit limit = t
        ∧ t = { s with pulse := t.pulse, port := { s.port with notice := t.port.notice } }
        ∧ t.pulse.windows = s.pulse.windows
        ∧ (∀ ch, t.pulse.get ch = { s.pulse.get ch with
            counter := min limit (s.pulse.get ch).counter
            health := if limit ≤ (s.pulse.get ch).counter then .faulted else (s.pulse.get ch).health })
        ∧ ((∃ ch, faults (s.pulse.get ch)) → t.port.notice = s.port.notice ||| 0x20)
        ∧ ((∀ ch, ¬ faults (s.pulse.get ch)) → t.port.notice = s.port.notice))
    ∧ ∀ (old : TuneSet) (m : Memory) (a : Nat),
      let byte (i : Nat) : Nat := (memGet m (a + i)).toNat
      let word (i : Nat) : Nat := memLe m 2 (a + i)
      let short (i : Nat) : Int := if word i < 32768 then (word i : Int) else word i - 65536
      let words (n i : Nat) : List Nat := (List.range n).map (fun k => word (i + 2 * k))
      let kept (lo hi n : Nat) : Nat := if n < lo then lo else if hi < n then hi else n
      let changes (lo hi n : Nat) : Nat := if n < lo ∨ hi < n then 1 else 0
      let keptInt (lo hi v : Int) : Int := if v < lo then lo else if hi < v then hi else v
      let changesInt (lo hi v : Int) : Nat := if v < lo ∨ hi < v then 1 else 0
      let start : StartTune :=
        { run := kept 300 1200 (word 4), stop := kept 100 600 (word 6), longCrank := kept 3 30 (word 8)
          catchTime := kept 500 5000 (word 10), hotWindow := kept 10 600 (word 12), coldLimit := keptInt (-40) 60 (short 14)
          clutchWired := decide (byte 16 % 2 = 1), reverseWired := decide (byte 16 / 2 % 2 = 1) }
      let startSound : Prop := word 6 < word 4 ∧ start.stop < start.run
      let engine : EngineTune :=
        { s1 := kept 0 8000 (word 4), s2 := kept 0 8000 (word 6), s3 := kept 0 8000 (word 8)
          t1 := keptInt (-250) 250 (short 10), t2 := keptInt (-250) 250 (short 12), t3 := keptInt (-250) 250 (short 14)
          idle := kept 300 1500 (word 16), overspeed := kept 1000 8000 (word 18), reference := kept 100 5000 (word 20) }
      let engineSound : Prop := (word 4 < word 6 ∧ word 6 < word 8 ∧ short 10 < short 12 ∧ short 12 < short 14)
        ∧ engine.s1 < engine.s2 ∧ engine.s2 < engine.s3 ∧ engine.t1 < engine.t2 ∧ engine.t2 < engine.t3
      let forward := kept 1 12 (byte 4)
      let reverse := kept 0 2 (byte 5)
      let ratio (count at_ i : Nat) : Nat := if i < count then kept 64 2047 (word (at_ + 2 * i)) else word (at_ + 2 * i)
      let ratioChanges (count at_ : Nat) : Nat := ((List.range count).map (fun i => changes 64 2047 (word (at_ + 2 * i)))).sum
      let gearbox : GearTune :=
        { forward := forward, reverse := reverse, tolerance := kept 1 10 (byte 6)
          forwardRatios := (List.range 12).map (ratio forward 10), reverseRatios := (List.range 2).map (ratio reverse 34)
          cycle := { gate := kept 1 64 (byte 7), width := kept 1 256 (word 8), weights := words 16 38 } }
      let gearboxSound : Prop := byte 4 ≠ 0 ∧ (∀ i, i + 1 < byte 4 → i < 11 → word (12 + 2 * i) < word (10 + 2 * i))
        ∧ ∀ i, i + 1 < forward → ratio forward 10 (i + 1) < ratio forward 10 i
      let axle : CycleTune := { gate := kept 1 64 (byte 4), width := kept 1 256 (word 6), weights := words 16 8 }
      let pulse : PulseTune :=
        { teeth0 := kept 0 240 (byte 4), teeth1 := kept 0 240 (byte 5), teeth2 := kept 0 240 (byte 6)
          teeth3 := kept 0 240 (byte 7), limit := kept 1 15 (byte 8) }
      let supplySound : Prop := (byte 4 = 12 ∨ byte 4 = 24) ∧ (byte 5 = 0 ∨ byte 5 = 1)
      ((supplySound → readSection old m a .supply =
            some ({ old with supply := ⟨if byte 4 = 24 then .v24 else .v12, if byte 5 = 1 then .dip else .line⟩ }, 0))
          ∧ (¬ supplySound → readSection old m a .supply = none))
        ∧ ((startSound → readSection old m a .start = some ({ old with start := start },
              changes 300 1200 (word 4) + changes 100 600 (word 6) + changes 3 30 (word 8) + changes 500 5000 (word 10)
                + changes 10 600 (word 12) + changesInt (-40) 60 (short 14)))
          ∧ (¬ startSound → readSection old m a .start = none))
        ∧ ((engineSound → readSection old m a .engine = some ({ old with engine := engine },
              changes 0 8000 (word 4) + changes 0 8000 (word 6) + changes 0 8000 (word 8)
                + changesInt (-250) 250 (short 10) + changesInt (-250) 250 (short 12) + changesInt (-250) 250 (short 14)
                + changes 300 1500 (word 16) + changes 1000 8000 (word 18) + changes 100 5000 (word 20)))
          ∧ (¬ engineSound → readSection old m a .engine = none))
        ∧ readSection old m a .clutch = some ({ old with clutch := ⟨kept 10 200 (word 4), kept 1 2000 (word 6)⟩ },
            changes 10 200 (word 4) + changes 1 2000 (word 6))
        ∧ ((gearboxSound → readSection old m a .gearbox = some ({ old with gearbox := gearbox },
              changes 1 12 (byte 4) + changes 0 2 (byte 5) + changes 1 10 (byte 6) + changes 1 64 (byte 7)
                + changes 1 256 (word 8) + ratioChanges forward 10 + ratioChanges reverse 34))
          ∧ (¬ gearboxSound → readSection old m a .gearbox = none))
        ∧ readSection old m a .axle = some ({ old with axle := axle }, changes 1 64 (byte 4) + changes 1 256 (word 6))
        ∧ readSection old m a .pulse = some ({ old with pulse := pulse },
            changes 0 240 (byte 4) + changes 0 240 (byte 5) + changes 0 240 (byte 6) + changes 0 240 (byte 7)
              + changes 1 15 (byte 8))
        ∧ readSection old m a .journal =
          some ({ old with period := kept 60 3600 (word 4) }, changes 60 3600 (word 4))
        ∧ readSection old m a .code = some ({ old with code := memLe m 4 (a + 4) }, 0)

/-! ### Lines, pulse channels, sensor supply, board -/

/-- The table of R38: a raw level that differs starts the debounce timer with it as pending level, one that returns stops it. Before its
starting level is given a line only keeps its raw level, and a starting level is no change (R39), an active IGN arming the monitor with
nothing counted (R86); in HOLD it arms nothing (R84) and sets the prior state to RUN (the MODEL'S CHOICE, notes/assumptions/35.md). The
last one takes the part into RUN (R166; one command a line is the MODEL'S CHOICE, notes/assumptions/13.md), from a DOZE entered before it
too (the MODEL'S CHOICE, notes/assumptions/35.md), and the sensor supply, windows, quantum, self-poll, period and doze timers begin, and
the power state's byte is rewritten (the MODEL'S CHOICE, notes/assumptions/28.md). A CLUTCH or REVERSE change outside RUN moves the
debounced level alone (R41). In RUN, which the power
state is before that entry too (the MODEL'S CHOICE, notes/assumptions/24.md), a wired CLUTCH is presented to the board: its record FRESH
with source LINE (R29), and a change of it handed to the cycle counter, whose samples wait (the MODEL'S CHOICE, notes/assumptions/7.md),
and then to the evaluation of the gear (R34); a wired REVERSE is handed to the evaluation. That proceeds with both shaft speeds FRESH and
the output at 50 rpm or more: GEAR FRESH with source DERIVED (R30, R31), a change of it handed to the cycle counter and the duty meter
(R34). A debounced IGN rise (R40) arms a monitor in OFF (R76), here below the run threshold, and clears the lockout and the wrong-code
count (R156). In RUN a supply LOCKED-OFF goes to TRIAL (R54); in HOLD the monitor takes nothing, the prior state becomes RUN (R165) and a
supply LOCKED-OFF goes OFF; in DOZE the part wakes to RUN (R166). -/
def Obligations.LinesAreDebounced : Prop :=
  (∀ (line : Line) (s : State), s.powered = true →
    let l := s.lines.get line
    (∀ level, l.starting = false → level ≠ l.level → exec (.lineRawChange line level) s =
      .next { s with lines := s.lines.set line { l with raw := level, pendingLevel := some level } })
      ∧ (l.starting = false → exec (.lineRawChange line l.level) s =
        .next { s with lines := s.lines.set line { l with raw := l.level, pendingLevel := none } })
      ∧ (∀ level, l.starting = true → exec (.lineRawChange line level) s =
        .next { s with lines := s.lines.set line { l with raw := level } })
      ∧ (∀ level, (line = .clutch ∨ line = .reverse) → s.supply.power ≠ .run → l.pendingLevel = some level →
        exec (.debounceExpiry line) s =
          .next { s with lines := s.lines.set line { l with level := level, pendingLevel := none } })
      ∧ (∀ other, line ≠ .ign → other ≠ line → l.starting = true → (s.lines.get other).starting = true →
        exec (.startingLevel line) s = .next
          { s with lines := s.lines.set line { l with level := l.raw, pendingLevel := none, starting := false } }))
    ∧ (∀ (s : State) (other : Line), s.live → s.port.mem.wf → s.supply.power = .run → other ≠ .ign →
      (s.lines.get other).starting = true → s.lines.ign.starting = true →
      let given : Lines := { s.lines with
        ign := { s.lines.ign with level := s.lines.ign.raw, pendingLevel := none, starting := false } }
      (s.lines.ign.raw = false → exec (.startingLevel .ign) s = .next { s with lines := given })
        ∧ (s.lines.ign.raw = true → s.monitor.state = .off → s.speedBelowRun →
          ∃ t : State, exec (.startingLevel .ign) s = .next t
            ∧ t = { s with
                lines := given, monitor := { s.monitor with state := .armed }
                supply := { s.supply with doze := .stopped }, port := { s.port with mem := t.port.mem } }
            ∧ t.byteAt 0x05 = 1 ∧ bytesKept s t (fun a => a = 0x05)))
    ∧ (∀ s : State, s.live → s.supply.power = .hold → s.lines.ign.starting = true →
      exec (.startingLevel .ign) s = .next { s with
        lines := { s.lines with
          ign := { s.lines.ign with level := s.lines.ign.raw, pendingLevel := none, starting := false } }
        supply := { s.supply with prior := if s.lines.ign.raw = true then .run else s.supply.prior } })
    ∧ (∀ (s : State) (line : Line), s.live → s.port.mem.wf → s.supply.power ≠ .hold → s.supply.started = false →
      line ≠ .ign → (∀ other, (s.lines.get other).starting = decide (other = line)) →
      s.sensor = ⟨.off, 0, .stopped, .stopped⟩ → s.supply.doze = .stopped → s.journal.period = .stopped →
      ∃ t : State, exec (.startingLevel line) s = .next t
        ∧ t = { s with
            lines := s.lines.set line { s.lines.get line with
              level := (s.lines.get line).raw, pendingLevel := none, starting := false }
            supply := { s.supply with
              power := .run, started := true, doze := if s.monitor.state = .off then .running 30000 else .stopped }
            sensor := ⟨.on, 0, .stopped, .stopped⟩
            pulse := { s.pulse.each (fun c => { c with edges := 0, mark := false }) with windows := true }
            duty := { s.duty with quantumTimer := .running 0, lastClutch := none }
            scanner := { s.scanner with selfPoll := .running 1000 }
            journal := { s.journal with period := .running (1000 * s.tune.period) }
            port := { s.port with mem := t.port.mem } }
        ∧ t.byteAt 0x04 = 0 ∧ bytesKept s t (fun a => a = 0x04))
    ∧ (∀ s : State, s.live → s.port.mem.wf → s.lines.ign.pendingLevel = some true →
      let base : State := { s with
        lines := { s.lines with ign := { s.lines.ign with level := true, pendingLevel := none } }
        depot := { s.depot with wrongCodes := 0, lockout := false } }
      let wasOff := s.monitor.state = .off
      let lockoutShown (t : State) : Prop := s.depot.lockout = true → t.byteAt 0x07 = 0
      (s.supply.power = .run → (wasOff → s.speedBelowRun) →
        ∃ t : State, exec (.debounceExpiry .ign) s = .next t
          ∧ t = { base with
              monitor := if wasOff then { s.monitor with state := .armed } else s.monitor
              supply := if wasOff then { s.supply with doze := .stopped } else s.supply
              sensor := if s.sensor.state = .lockedOff then ⟨.trial, 0, .stopped, .running 50⟩ else s.sensor
              port := { s.port with mem := t.port.mem } }
          ∧ (wasOff → t.byteAt 0x05 = 1) ∧ lockoutShown t ∧ bytesKept s t (within 0x05 3))
        ∧ (s.supply.power = .hold →
          ∃ t : State, exec (.debounceExpiry .ign) s = .next t
            ∧ t = { base with
                supply := { s.supply with prior := .run }
                sensor := if s.sensor.state = .lockedOff then ⟨.off, 0, .stopped, .stopped⟩ else s.sensor
                port := { s.port with mem := t.port.mem } }
            ∧ lockoutShown t ∧ bytesKept s t (within 0x06 2))
        ∧ (∀ period, s.supply.power = .doze → wasOff → s.speedBelowRun → s.sensor = ⟨.off, 0, .stopped, .stopped⟩ →
          s.supply.doze = .stopped → s.journal.period = .frozen period →
          ∃ t : State, exec (.debounceExpiry .ign) s = .next t
            ∧ t = { base with
                monitor := { s.monitor with state := .armed }
                supply := { s.supply with power := .run, started := true }
                sensor := ⟨.on, 0, .stopped, .stopped⟩
                pulse := { s.pulse.each (fun c => { c with edges := 0, mark := false }) with windows := true }
                duty := { s.duty with quantumTimer := .running 0, lastClutch := none }
                scanner := { s.scanner with selfPoll := .running 1000 }
                journal := { s.journal with period := .running period }
                port := { s.port with mem := t.port.mem } }
            ∧ t.byteAt 0x04 = 0 ∧ t.byteAt 0x05 = 1 ∧ lockoutShown t ∧ bytesKept s t (within 0x04 4)))
    ∧ (∀ (s : State) (line : Line) (level : Bool), s.powered = true → s.supply.power = .run →
      (s.lines.get line).pendingLevel = some level →
      let base : State := { s with
        lines := s.lines.set line { s.lines.get line with level := level, pendingLevel := none } }
      (line = .clutch → exec (.debounceExpiry line) s = .next base.presentClutch)
        ∧ (line = .reverse →
          exec (.debounceExpiry line) s = .next (if s.tune.start.reverseWired = true then base.evaluateGear else base)))
    ∧ ∀ s : State, s.live → s.port.mem.wf →
      (let level : Int := if s.lines.clutch.level = true then 1 else 0
        let shown : Board := { s.board with clutch := ⟨level, .fresh, .line, some s.supply.recorderTime, .running 0⟩ }
        (s.tune.start.clutchWired = false → s.presentClutch = s)
          ∧ (s.tune.start.clutchWired = true → s.board.clutch.age ≠ .unknown → s.board.clutch.value = level →
            ∃ t : State, s.presentClutch = t ∧ t = { s with board := shown, port := { s.port with mem := t.port.mem } }
              ∧ t.byteAt 0x9A = 1 ∧ bytesKept s t (within 0x98 12))
          ∧ (s.tune.start.clutchWired = true → (s.board.clutch.age = .unknown ∨ s.board.clutch.value ≠ level) →
            ∃ u : State, s.presentClutch = u.evaluateGear
              ∧ u = { s with board := shown, samples := u.samples, port := { s.port with mem := u.port.mem } }
              ∧ State.feedsCounter { s with board := shown } u.samples
              ∧ u.byteAt 0x9A = 1 ∧ bytesKept s u (within 0x98 12)))
        ∧ (¬ s.board.derivationDue → s.evaluateGear = s)
        ∧ ∀ g, s.board.derivationDue → s.derives g →
          let geared : Board := { s.board with gear := ⟨g, .fresh, .derived, some s.supply.recorderTime, .running 0⟩ }
          (s.board.gear.age ≠ .unknown → s.board.gear.value = g →
            ∃ t : State, s.evaluateGear = t ∧ t = { s with board := geared, port := { s.port with mem := t.port.mem } }
              ∧ t.byteAt 0xA6 = 1 ∧ bytesKept s t (within 0xA4 12))
            ∧ ((s.board.gear.age = .unknown ∨ s.board.gear.value ≠ g) →
              ∃ u : State, s.evaluateGear = u.dutyGear
                ∧ u = { s with board := geared, samples := u.samples, port := { s.port with mem := u.port.mem } }
                ∧ State.feedsCounter { s with board := geared } u.samples
                ∧ u.byteAt 0xA6 = 1 ∧ bytesKept s u (within 0xA4 12))

/-- The start monitor's events in RUN, outside DEPOT. A debounced CRANK rise in ARMED with the crank source LINE (R74, R77): one crank
attempt at the STARTER slot and nothing in the hire register (R83), the crank timer from 0, the long-crank mark clear, the caught flag by
the speed as it stands, the first-reading flag clear, the evidence present. A dip does the same with the source DIP below the run
threshold, and above it nothing (R75). A CRANK rise in CATCHING adds a failed crank (R79). At the end of the evidence, by CRANK fall or
recovery, an attempt that caught is a start of its class (R82) and RUNNING, with the stop timer below the stop threshold (R80), and one
that did not is CATCHING (R78). An IGN fall (R76 to R81): ARMED goes OFF, CRANKING and CATCHING count a failed crank and go OFF, the
evidence standing until its own end (the MODEL'S CHOICE, notes/assumptions/21.md), RUNNING stays with the speed known and confirms the
stop with it unknown; OFF starts the doze timer and a checkpoint, which holds the failed crank (the MODEL'S CHOICE,
notes/assumptions/30.md). A hand-on of ENGINE_SPEED (R73), of which FRESH becoming HELD is one: at the run threshold OFF and ARMED enter
RUNNING with an UNOBSERVED start unless the first-reading flag is set, CATCHING with a classified start, CRANKING has caught; a FRESH
reading clears the flag (R86). -/
def Obligations.CrankRiseBeginsAnAttempt : Prop :=
  let attempt (b : Body) : Body := match b with
    | .starter b => .starter { b with attempts := min Config.eventCeiling (b.attempts + 1) }
    | b => b
  let failure (b : Body) : Body := match b with
    | .starter b => .starter { b with failed := min Config.eventCeiling (b.failed + 1) }
    | b => b
  let failureCounted (c : Counts) : Counts := { c with failedCranks := min Config.eventCeiling (c.failedCranks + 1) }
  let startsBecome (f : StartCounts → StartCounts) (b : Body) : Body := match b with
    | .engine b => .engine { b with starts := f b.starts }
    | b => b
  let unobserved (c : StartCounts) : StartCounts := { c with unobserved := min Config.eventCeiling (c.unobserved + 1) }
  (∀ s : State, s.live → s.port.mem.wf → s.supply.power = .run → s.tune.supply.crankSource = .line →
    s.monitor.state = .armed → s.depot.state = .normal → s.lines.crank.pendingLevel = some true →
    ∃ t : State, exec (.debounceExpiry .crank) s = .next t
      ∧ t = { s with
          lines := { s.lines with crank := { s.lines.crank with level := true, pendingLevel := none } }
          slots := t.slots
          monitor := { s.monitor with
            state := .cranking, crankTimer := .running 0, longMark := false, evidence := some .line, firstReading := false
            caught := decide s.speedAtRun }
          port := { s.port with mem := t.port.mem } }
      ∧ slotGains s t .starter attempt
      ∧ t.byteAt 0x05 = 2 ∧ bytesKept s t (fun a => a = 0x05))
    ∧ (∀ s : State, s.live → s.port.mem.wf → s.supply.power = .run → s.tune.supply.crankSource = .line →
      s.monitor.state = .catching → s.depot.state = .normal → s.lines.crank.pendingLevel = some true →
      ∃ t : State, exec (.debounceExpiry .crank) s = .next t
        ∧ t = { s with
            lines := { s.lines with crank := { s.lines.crank with level := true, pendingLevel := none } }
            slots := t.slots, hires := t.hires
            monitor := { s.monitor with
              state := .cranking, crankTimer := .running 0, longMark := false, evidence := some .line, firstReading := false
              caught := decide s.speedAtRun, catchTimer := .stopped }
            port := { s.port with mem := t.port.mem } }
        ∧ slotGains s t .starter (fun b => attempt (failure b)) ∧ registerGains s t failureCounted
        ∧ t.byteAt 0x05 = 2 ∧ bytesKept s t (fun a => a = 0x05))
    ∧ (∀ (s : State) (mv : Nat), s.live → s.port.mem.wf → s.supply.power = .run → s.tune.supply.crankSource = .dip →
      s.monitor.state = .armed → s.depot.state = .normal → s.supply.dipped = false →
      (mv < match s.tune.supply.voltage with
        | .v12 => 10500
        | .v24 => 21000) →
      let supply : Supply := { s.supply with battery := mv, dipped := true }
      (s.speedAtRun → exec (.batteryBelowCrankDip mv) s = .next { s with supply := supply })
        ∧ (s.speedBelowRun →
          ∃ t : State, exec (.batteryBelowCrankDip mv) s = .next t
            ∧ t = { s with
                supply := supply, slots := t.slots
                monitor := { s.monitor with
                  state := .cranking, crankTimer := .running 0, longMark := false, evidence := some .dip
                  firstReading := false, caught := false }
                port := { s.port with mem := t.port.mem } }
            ∧ slotGains s t .starter attempt
            ∧ t.byteAt 0x05 = 2 ∧ bytesKept s t (fun a => a = 0x05)))
    ∧ (∀ (s base : State) (c : Instr), s.live → s.port.mem.wf → s.supply.power = .run → s.monitor.state = .cranking →
      s.supply.filter = .stopped → s.monitor.stopTimer = .stopped →
      ((c = .debounceExpiry .crank ∧ s.lines.crank.pendingLevel = some false ∧ s.monitor.evidence = some .line
          ∧ base = { s with lines := { s.lines with crank := { s.lines.crank with level := false, pendingLevel := none } } })
        ∨ ∃ mv, c = .batteryAboveDipRecovery mv ∧ s.supply.dipped = true ∧ s.monitor.evidence = some .dip
          ∧ (match s.tune.supply.voltage with
            | .v12 => 11000
            | .v24 => 22000) < mv
          ∧ base = { s with supply := { s.supply with battery := mv, dipped := false } }) →
      let ended : Monitor := { s.monitor with crankTimer := .stopped, evidence := none }
      (s.monitor.caught = true → s.board.engineSpeed.age ≠ .unknown →
        ∃ t : State, exec c s = .next t
          ∧ t = { base with
              slots := t.slots, hires := t.hires
              monitor := { ended with
                state := .running
                stopTimer := if s.board.engineSpeed.value < s.tune.start.stop then .running 1000 else .stopped }
              port := { s.port with mem := t.port.mem } }
          ∧ slotGains s t .engine (startsBecome (startCounted s))
          ∧ registerGains s t (fun c => { c with starts := startCounted s c.starts })
          ∧ t.byteAt 0x05 = 4 ∧ bytesKept s t (fun a => a = 0x05))
        ∧ (s.monitor.caught = false → s.speedBelowRun →
          ∃ t : State, exec c s = .next t
            ∧ t = { base with
                monitor := { ended with state := .catching, catchTimer := .running s.tune.start.catchTime }
                port := { s.port with mem := t.port.mem } }
            ∧ t.byteAt 0x05 = 3 ∧ bytesKept s t (fun a => a = 0x05)))
    ∧ (∀ s : State, s.live → s.port.mem.wf → s.supply.power = .run → s.lines.ign.pendingLevel = some false →
      s.supply.filter = .stopped →
      let base : State := { s with lines := { s.lines with ign := { s.lines.ign with level := false, pendingLevel := none } } }
      let dozing : Supply := { s.supply with doze := .running 30000 }
      (s.monitor.state = .off → exec (.debounceExpiry .ign) s = .next base)
        ∧ (s.monitor.state = .running → s.board.engineSpeed.age ≠ .unknown → exec (.debounceExpiry .ign) s = .next base)
        ∧ (s.journalFree → s.speedBelowRun →
          (s.monitor.state = .armed →
            ∃ t : State, exec (.debounceExpiry .ign) s = .next t
              ∧ t = { base with
                  monitor := { s.monitor with state := .off }, supply := dozing, journal := t.journal
                  port := { s.port with mem := t.port.mem } }
              ∧ t.journal.startedFrom s ∧ t.byteAt 0x05 = 0 ∧ bytesKept s t (fun a => a = 0x05))
            ∧ ((s.monitor.state = .cranking ∨ s.monitor.state = .catching) →
              ∃ t : State, exec (.debounceExpiry .ign) s = .next t
                ∧ t = { base with
                    slots := t.slots, hires := t.hires, supply := dozing, journal := t.journal
                    monitor := if s.monitor.state = .cranking then { s.monitor with state := .off, crankTimer := .stopped }
                      else { s.monitor with state := .off, catchTimer := .stopped }
                    port := { s.port with mem := t.port.mem } }
                ∧ slotGains s t .starter failure ∧ registerGains s t failureCounted
                ∧ t.journal.startedFrom { s with slots := t.slots, hires := t.hires }
                ∧ t.byteAt 0x05 = 0 ∧ bytesKept s t (fun a => a = 0x05))
            ∧ (s.monitor.state = .running → s.board.engineSpeed.age = .unknown → s.duty.window = none →
              ∃ t : State, exec (.debounceExpiry .ign) s = .next t
                ∧ t = { base with
                    monitor := { s.monitor with
                      state := .off, lastStop := some s.supply.recorderTime, stopTimer := .stopped }
                    duty := { s.duty with ptoAbove := false, overspeedCount := none }
                    supply := dozing, journal := t.journal
                    port := { s.port with mem := t.port.mem } }
                ∧ t.journal.startedFrom s ∧ t.byteAt 0x05 = 0 ∧ bytesKept s t (fun a => a = 0x05))))
    ∧ ∀ s : State, s.live → s.port.mem.wf → s.supply.power = .run → s.tune.start.stop ≤ s.tune.start.run →
      let read : Monitor := { s.monitor with
        firstReading := if s.board.engineSpeed.age = .fresh then false else s.monitor.firstReading }
      (s.speedAtRun → (s.monitor.state = .off ∨ s.monitor.state = .armed) → s.depot.state = .normal →
        ∃ t : State, s.speedHandOn = t
          ∧ t = { s with
              slots := t.slots, hires := t.hires, monitor := { read with state := .running, stopTimer := .stopped }
              supply := if s.monitor.state = .off then { s.supply with doze := .stopped } else s.supply
              port := { s.port with mem := t.port.mem } }
          ∧ (s.monitor.firstReading = true → t.slots = s.slots ∧ t.hires = s.hires)
          ∧ (s.monitor.firstReading = false → slotGains s t .engine (startsBecome unobserved)
            ∧ registerGains s t (fun c => { c with starts := unobserved c.starts }))
          ∧ t.byteAt 0x05 = 4 ∧ bytesKept s t (fun a => a = 0x05))
        ∧ (s.speedAtRun → s.monitor.state = .catching →
          ∃ t : State, s.speedHandOn = t
            ∧ t = { s with
                slots := t.slots, hires := t.hires
                monitor := { read with state := .running, catchTimer := .stopped, stopTimer := .stopped }
                port := { s.port with mem := t.port.mem } }
            ∧ slotGains s t .engine (startsBecome (startCounted s))
            ∧ registerGains s t (fun c => { c with starts := startCounted s c.starts })
            ∧ t.byteAt 0x05 = 4 ∧ bytesKept s t (fun a => a = 0x05))
        ∧ (s.speedAtRun → s.monitor.state = .cranking →
          s.speedHandOn = { s with monitor := { read with caught := true } })
        ∧ (s.speedBelowRun → s.monitor.state ≠ .running → s.speedHandOn = { s with monitor := read })
        ∧ (∀ ms, s.monitor.state = .running → s.board.engineSpeed.age ≠ .unknown →
          (s.monitor.stopTimer = .stopped ∨ s.monitor.stopTimer = .running ms) →
          s.speedHandOn = { s with monitor := { read with
            stopTimer := if s.board.engineSpeed.value < s.tune.start.stop then
                (if s.monitor.stopTimer = .stopped then .running 1000 else .running ms)
              else .stopped } })
        ∧ (s.monitor.state = .running → s.board.engineSpeed.age = .unknown → s.lines.ign.level = true →
          s.speedHandOn = { s with monitor := { read with stopTimer := .stopped } })
        ∧ (s.board.engineSpeed.age = .fresh →
          ∃ u : State, exec (.freshTimerExpiry .engineSpeed) s = .next u.speedHandOn
            ∧ u = { s with
                board := { s.board with engineSpeed := { s.board.engineSpeed with age := .held } }
                port := { s.port with mem := u.port.mem } }
            ∧ bytesKept s u (within 0x50 12))

/-- Edges and window ends outside windows do nothing (R42). In a window an edge adds 1 up to 65535. A window end is judged: bad with 1
tooth or more and above 2000 edges, the supply-left-ON mark, or no edge where frames contradict it at P0, P1 or P2 (R45; a shadow just
500 ms old is judged by a free value, notes/assumptions/3.md, and is left out). The fault counter then follows the table of R47, with
CHANNEL at an entry to FAULTED (R48). With 1 tooth or more and GOOD after that, ENGINE_SPEED, INPUT_SPEED, OUTPUT_SPEED or PTO_SPEED takes
count x 600 / teeth, at most 8000, with source PULSE; with teeth 0, or FAULTED, none does (R25, R43, R44). The speed is handed on: P0's to
the start monitor, P1's and P2's to the evaluation of the gear. At P0, even FAULTED, CLUTCH is then presented (R44), as LinesAreDebounced
says of a presentation and an evaluation. The next window begins at 0, marked unless the sensor supply is ON (R46). An entire window end is
written out for P3, for P0 below the run threshold with CLUTCH not wired, and for P1 and P2, where the derived gear (R30, R31) is FRESH
with source DERIVED, and only a change is handed on, to the cycle counter (whose samples wait: the MODEL'S CHOICE,
notes/assumptions/7.md) and the duty meter (R34). -/
def Obligations.PulseWindowsCountAndEnd : Prop :=
  (∀ limit counter, stepFault limit counter .good true = (counter + 1, if counter + 1 = limit then .faulted else .good)
      ∧ stepFault limit counter .good false = (counter - 1, .good)
      ∧ stepFault limit counter .faulted true = (min limit (counter + 1), .faulted)
      ∧ stepFault limit counter .faulted false = (counter - 1, if counter ≤ 1 then .good else .faulted))
    ∧ (∀ (ch : Channel) (s : State), s.live →
      let c := s.pulse.get ch
      let fresh : Bool := decide (s.sensor.state ≠ .on)
      let passed : ChannelState := ⟨0, fresh, c.counter - 1, if c.health = .good ∨ c.counter ≤ 1 then .good else .faulted⟩
      (s.pulse.windows = false → exec (.pulseEdge ch) s = .next s ∧ exec (.windowEnd ch) s = .next s)
        ∧ (s.pulse.windows = true → exec (.pulseEdge ch) s =
          .next { s with pulse := s.pulse.set ch { c with edges := min 65535 (c.edges + 1) } })
        ∧ (s.pulse.windows = true → ch ≠ .p0 → s.tune.pulse.teeth ch = 0 → exec (.windowEnd ch) s =
          .next { s with pulse := s.pulse.set ch passed })
        ∧ (s.pulse.windows = true → ch = .p3 → s.tune.pulse.teeth3 ≠ 0 → c.health = .good → c.edges ≤ 2000 →
          c.mark = false → s.port.mem.wf →
          let rpm : Nat := min 8000 (c.edges * 600 / s.tune.pulse.teeth3)
          let speed : QRecord := ⟨(rpm : Int), .fresh, .pulse, some s.supply.recorderTime, .running 0⟩
          ∃ t : State, exec (.windowEnd ch) s = .next t
            ∧ t = { s with
                pulse := { s.pulse with p3 := ⟨0, fresh, c.counter - 1, .good⟩ }
                board := { s.board with ptoSpeed := speed }
                port := { s.port with mem := t.port.mem } }
            ∧ bytesKept s t (within 0x74 12))
        ∧ (s.pulse.windows = true → ch = .p3 → s.tune.pulse.teeth3 ≠ 0 → (2000 < c.edges ∨ c.mark = true) →
          c.health = .good → c.counter + 1 = s.tune.pulse.limit → exec (.windowEnd ch) s =
            .next { s with
              pulse := { s.pulse with p3 := ⟨0, fresh, c.counter + 1, .faulted⟩ }
              port := { s.port with notice := s.port.notice ||| 0x20 } }))
    ∧ (∀ s : State, s.live → s.port.mem.wf → s.pulse.windows = true → s.supply.power = .run → s.tune.pulse.teeth0 ≠ 0 →
      s.pulse.p0.health = .good → 1 ≤ s.pulse.p0.edges → s.pulse.p0.edges ≤ 2000 → s.pulse.p0.mark = false →
      let rpm : Nat := min 8000 (s.pulse.p0.edges * 600 / s.tune.pulse.teeth0)
      s.tune.start.clutchWired = false → s.monitor.state ≠ .running → rpm < s.tune.start.run →
      ∃ t : State, exec (.windowEnd .p0) s = .next t
        ∧ t = { s with
            pulse := { s.pulse with p0 := ⟨0, decide (s.sensor.state ≠ .on), s.pulse.p0.counter - 1, .good⟩ }
            board := { s.board with engineSpeed := ⟨(rpm : Int), .fresh, .pulse, some s.supply.recorderTime, .running 0⟩ }
            monitor := { s.monitor with firstReading := false }
            port := { s.port with mem := t.port.mem } }
        ∧ bytesKept s t (within 0x50 12))
    ∧ (∀ (ch : Channel) (s : State) (bad : Bool), s.live → s.port.mem.wf → s.pulse.windows = true → s.board.untied →
      (bad = true ↔ s.windowBad ch) →
      let c := s.pulse.get ch
      let after := stepFault s.tune.pulse.limit c.counter c.health bad
      let stepped : State := { s with
        pulse := s.pulse.set ch { c with counter := after.1, health := after.2 }
        port := { s.port with
          notice := if c.health = .good ∧ after.2 = .faulted then s.port.notice ||| 0x20 else s.port.notice } }
      let begun (t : State) : State := { t with
        pulse := t.pulse.set ch { t.pulse.get ch with edges := 0, mark := decide (s.sensor.state ≠ .on) } }
      let rpm : Nat := min 8000 (c.edges * 600 / s.tune.pulse.teeth ch)
      let speed : QRecord := ⟨(rpm : Int), .fresh, .pulse, some s.supply.recorderTime, .running 0⟩
      let board : Board := match ch with
        | .p0 => { s.board with engineSpeed := speed }
        | .p1 => { s.board with inputSpeed := speed }
        | .p2 => { s.board with outputSpeed := speed }
        | .p3 => { s.board with ptoSpeed := speed }
      let place := match ch with
        | .p0 => 0x50
        | .p1 => 0x5C
        | .p2 => 0x68
        | .p3 => 0x74
      ((s.tune.pulse.teeth ch = 0 ∨ after.2 = .faulted) →
        exec (.windowEnd ch) s = .next (begun (if ch = .p0 then stepped.presentClutch else stepped)))
        ∧ (s.tune.pulse.teeth ch ≠ 0 → after.2 = .good →
          ∃ u : State, exec (.windowEnd ch) s = .next (begun (match ch with
              | .p0 => u.speedHandOn.presentClutch
              | .p1 => u.evaluateGear
              | .p2 => u.evaluateGear
              | .p3 => u))
            ∧ u = { stepped with board := board, port := { stepped.port with mem := u.port.mem } }
            ∧ memLe u.port.mem 2 place = rpm ∧ bytesKept s u (within place 12)))
    ∧ ∀ (ch : Channel) (s : State), s.live → s.port.mem.wf → s.pulse.windows = true → (ch = .p1 ∨ ch = .p2) →
      s.tune.pulse.teeth ch ≠ 0 →
      let c := s.pulse.get ch
      c.health = .good → 1 ≤ c.edges → c.edges ≤ 2000 → c.mark = false →
      let rpm : Nat := min 8000 (c.edges * 600 / s.tune.pulse.teeth ch)
      let speed : QRecord := ⟨(rpm : Int), .fresh, .pulse, some s.supply.recorderTime, .running 0⟩
      let board : Board := if ch = .p1 then { s.board with inputSpeed := speed } else { s.board with outputSpeed := speed }
      let place (a : Nat) : Prop := within (if ch = .p1 then 0x5C else 0x68) 12 a
      let pulse := s.pulse.set ch ⟨0, decide (s.sensor.state ≠ .on), c.counter - 1, .good⟩
      (¬ board.derivationDue →
        ∃ t : State, exec (.windowEnd ch) s = .next t
          ∧ t = { s with pulse := pulse, board := board, port := { s.port with mem := t.port.mem } } ∧ bytesKept s t place)
        ∧ (∀ g, board.derivationDue → State.derives { s with board := board } g →
          let geared : Board := { board with gear := ⟨g, .fresh, .derived, some s.supply.recorderTime, .running 0⟩ }
          ∃ t : State, exec (.windowEnd ch) s = .next t
            ∧ t = { s with
                pulse := pulse, board := geared, samples := t.samples, duty := t.duty, slots := t.slots, hires := t.hires
                port := { s.port with mem := t.port.mem } }
            ∧ bytesKept s t (fun a => place a ∨ within 0xA4 12 a)
            ∧ (s.board.gear.age ≠ .unknown → s.board.gear.value = g →
              t.samples = s.samples ∧ t.duty = s.duty ∧ t.slots = s.slots ∧ t.hires = s.hires)
            ∧ ((s.board.gear.age = .unknown ∨ s.board.gear.value ≠ g) →
              State.feedsCounter { s with board := geared } t.samples))

/-- The 5 V output is on in ON and TRIAL and off in the other states (R51). A short in ON (R52): SHORTED, the off timer at 2 s,
every channel at the limit and FAULTED, the windows marked, SUPPLY, and CHANNEL if one was GOOD. The three rows of R53: the off
timer's expiry, a short in TRIAL (the fifth locks the supply off with SUPPLY), and the end of a trial. In the other states no
short is detected. -/
def Obligations.SensorSupplyMoves : Prop :=
  ∀ s : State, (s.sensorOutput = true ↔ s.sensor.state = .on ∨ s.sensor.state = .trial) ∧ (s.live →
    (s.sensor.state = .on →
      ∃ t : State, exec .sensorSupplyShort s = .next t
        ∧ t = { s with
            sensor := ⟨.shorted, s.sensor.retry, .running 2000, .stopped⟩, pulse := t.pulse
            port := { s.port with notice := t.port.notice } }
        ∧ t.pulse.windows = s.pulse.windows
        ∧ (∀ ch, t.pulse.get ch = ⟨(s.pulse.get ch).edges, (s.pulse.get ch).mark || s.pulse.windows,
          s.tune.pulse.limit, .faulted⟩)
        ∧ ((∃ ch, (s.pulse.get ch).health = .good) → t.port.notice = s.port.notice ||| 0x60)
        ∧ ((∀ ch, (s.pulse.get ch).health = .faulted) → t.port.notice = s.port.notice ||| 0x40))
      ∧ (s.sensor.state = .trial → s.sensor.retry ≠ 4 → exec .sensorSupplyShort s =
        .next { s with sensor := ⟨.shorted, s.sensor.retry + 1, .running 2000, .stopped⟩ })
      ∧ (s.sensor.state = .trial → s.sensor.retry = 4 → exec .sensorSupplyShort s =
        .next { s with
          sensor := ⟨.lockedOff, 5, .stopped, .stopped⟩, port := { s.port with notice := s.port.notice ||| 0x40 } })
      ∧ (s.sensor.state ≠ .on → s.sensor.state ≠ .trial → exec .sensorSupplyShort s = .next s)
      ∧ (∀ ms, s.sensor.state = .shorted → s.sensor.offTimer = .running ms → exec .offTimerExpiry s =
        .next { s with sensor := ⟨.trial, s.sensor.retry, .stopped, .running 50⟩ })
      ∧ (∀ ms, s.sensor.state = .trial → s.sensor.trialTimer = .running ms → exec .trialTimerExpiry s =
        .next { s with sensor := ⟨.on, 0, .stopped, .stopped⟩ }))

/-- The table of R22: at 500 ms a FRESH record becomes HELD with its value, source and time kept; at 2000 ms a HELD one becomes UNKNOWN
with value 0 and no source, its mirror zeros, and QUANTITY set (R35, R37). ENGINE_SPEED's are handed to the start monitor outside HOLD
(R34, R80); its FRESH one is in CrankRiseBeginsAnAttempt. CLUTCH and GEAR becoming UNKNOWN are handed to the cycle counter, which in RUN
with ENGINE_TORQUE FRESH makes a sample for each FITTED GEARBOX and AXLE slot (R34, R110; that it waits is the MODEL'S CHOICE,
notes/assumptions/7.md), and then CLUTCH to the evaluation of the gear; the duty meter makes nothing of a gear that is UNKNOWN (R96).
That an expiry on a record of another age changes nothing is the MODEL'S CHOICE (notes/assumptions/3.md and 6.md). -/
def Obligations.RecordsAge : Prop :=
  ∀ (q : Quantity) (s : State), s.live → s.port.mem.wf →
    let r := s.board.get q
    let place := within (0x50 + 12 * quantityIndex q) 12
    let lost := s.board.set q ⟨0, .unknown, .absent, none, .stopped⟩
    (r.age = .fresh → (q ≠ .engineSpeed ∨ s.supply.power = .hold) →
      ∃ t : State, exec (.freshTimerExpiry q) s = .next t
        ∧ t = { s with board := s.board.set q { r with age := .held }, port := { s.port with mem := t.port.mem } }
        ∧ t.byteAt (0x52 + 12 * quantityIndex q) = 2 ∧ bytesKept s t place)
      ∧ (r.age = .held →
        ∃ u : State,
          u = { s with
              board := lost, samples := u.samples
              port := { s.port with mem := u.port.mem, notice := s.port.notice ||| 0x80 } }
            ∧ (∀ a, place a → u.byteAt a = 0) ∧ bytesKept s u place
            ∧ ((q = .clutch ∨ q = .gear) → State.feedsCounter { s with board := lost } u.samples)
            ∧ (q ≠ .clutch → q ≠ .gear → u.samples = s.samples)
            ∧ exec (.heldTimerExpiry q) s = .next (
              if q = .engineSpeed ∧ s.supply.power ≠ .hold then u.speedHandOn
              else if q = .clutch then u.evaluateGear else u))
      ∧ (r.age ≠ .fresh → exec (.freshTimerExpiry q) s = .next s)
      ∧ (r.age ≠ .held → exec (.heldTimerExpiry q) s = .next s)

/-! ### Start monitor and duty meter -/

/-- The long-crank limit (R78): counted once, with ABUSE. The catch timer's expiry (R79): a failed crank, and ARMED. The stop
timer's expiry (R80, R81): the last-stop time is taken, and the monitor is ARMED with IGN active, or OFF with the doze timer at 30 s
and a checkpoint. The catch and the stop are below the run threshold; a crank that has caught counts its long crank too. -/
def Obligations.MonitorTimersExpire : Prop :=
  ∀ s : State, s.live → s.port.mem.wf →
    (∀ ms, s.monitor.state = .cranking → s.monitor.longMark = false → s.monitor.crankTimer = .running ms →
      ∃ t : State, exec .longCrank s = .next t
        ∧ t = { s with
            slots := t.slots, hires := t.hires, monitor := { s.monitor with longMark := true }
            port := { s.port with notice := s.port.notice ||| 0x100 } }
        ∧ slotGains s t .starter (fun b => match b with
            | .starter b => .starter { b with long := min Config.eventCeiling (b.long + 1) }
            | b => b)
        ∧ registerGains s t (fun c => { c with longCranks := min Config.eventCeiling (c.longCranks + 1) }))
      ∧ (s.monitor.longMark = true → exec .longCrank s = .next s)
      ∧ (∀ ms, s.speedBelowRun → s.monitor.state = .catching → s.monitor.catchTimer = .running ms →
        ∃ t : State, exec .catchTimerExpiry s = .next t
          ∧ t = { s with
              slots := t.slots, hires := t.hires
              monitor := { s.monitor with state := .armed, catchTimer := .stopped }
              port := { s.port with mem := t.port.mem } }
          ∧ slotGains s t .starter (fun b => match b with
              | .starter b => .starter { b with failed := min Config.eventCeiling (b.failed + 1) }
              | b => b)
          ∧ registerGains s t (fun c => { c with failedCranks := min Config.eventCeiling (c.failedCranks + 1) })
          ∧ t.byteAt 0x05 = 1 ∧ bytesKept s t (fun a => a = 0x05))
      ∧ (∀ ms, s.speedBelowRun → s.monitor.state = .running → s.monitor.stopTimer = .running ms → s.duty.window = none →
        s.supply.power = .run →
        let duty : Duty := { s.duty with ptoAbove := false, overspeedCount := none }
        let stopped : Monitor := { s.monitor with lastStop := some s.supply.recorderTime, stopTimer := .stopped }
        (s.lines.ign.level = true →
          ∃ t : State, exec .stopTimerExpiry s = .next t
            ∧ t = { s with monitor := { stopped with state := .armed }, duty := duty, port := { s.port with mem := t.port.mem } }
            ∧ t.byteAt 0x05 = 1 ∧ bytesKept s t (fun a => a = 0x05))
          ∧ (s.lines.ign.level = false → s.journalFree →
            ∃ t : State, exec .stopTimerExpiry s = .next t
              ∧ t = { s with
                  monitor := { stopped with state := .off }, duty := duty, journal := t.journal
                  supply := { s.supply with doze := .running 30000 }
                  port := { s.port with mem := t.port.mem } }
              ∧ t.journal.startedFrom s ∧ t.journal.waiting = s.journal.waiting.map (fun _ => true)
              ∧ t.byteAt 0x05 = 0 ∧ bytesKept s t (fun a => a = 0x05)))

/-- A quantum expiry in RUN (R90, R91, R102): the timer starts again and the last clutch reading is set; while CRANKING one
quantum of crank time lands at the STARTER slot and in the current record (R83, R131); in OFF, ARMED and CATCHING nothing else
happens. A metered quantum in RUNNING takes its steps in order, each by its own table: run time, the load-band cell (4 times the number
of speed limits reached plus the number of torque limits reached, or the UNKNOWN cell) and idle time where due at the ENGINE slot, gear
time at the GEARBOX slot, run and idle time in the current record (R93 to R95), here in a quantum with nothing else to judge; PTO time
and engagements (R97); overspeed, counted at the eleventh quantum above the limit, with ABUSE (R98); slip energy from |t| x R x slip
plus the remainder, divided by 19099 (R100, R101); clutch engagements and the engagement window, with a hot slip and ABUSE where it
closes above its threshold (R102 to R104). A GEAR hand-on in RUN counts a shift where the gear differs from the last one and the monitor
is RUNNING (R96). The leaving of RUNNING closes the window, clears the PTO flag and stops the overspeed timer (R97, R98, R104). -/
def Obligations.QuantumIsMeteredByTheStartState : Prop :=
  let event (n : Nat) : Nat := min Config.eventCeiling (n + 1)
  let quantum (n : Nat) : Nat := min Config.timeCeiling (n + 1)
  let read (s : State) : Option Bool :=
    if s.board.clutch.age = .unknown then none else some (decide (s.board.clutch.value = 1))
  (∀ (s : State) (ms : Nat), s.powered = true → s.supply.power = .run → s.duty.quantumTimer = .running ms →
      let duty : Duty := { s.duty with quantumTimer := .running 0, lastClutch := read s }
      ((s.monitor.state = .off ∨ s.monitor.state = .armed ∨ s.monitor.state = .catching) →
        exec .quantumExpiry s = .next { s with duty := duty })
        ∧ (s.monitor.state = .cranking →
          ∃ t : State, exec .quantumExpiry s = .next t ∧ t = { s with duty := duty, slots := t.slots, hires := t.hires }
            ∧ slotGains s t .starter (fun b => match b with
                | .starter b => .starter { b with crankTime := quantum b.crankTime }
                | b => b)
            ∧ registerGains s t (fun c => { c with crank := quantum c.crank }))
        ∧ (s.monitor.state = .running →
          let ran := (s.land (.engineQuantum s.loadCell s.idling)).land (.gearTime s.gearCell)
          let metered := ran.meterPto.meterOverspeed.meterSlip.meterWindow s.quantumJoules
          exec .quantumExpiry s =
            .next { metered with duty := { metered.duty with quantumTimer := .running 0, lastClutch := read s } }))
    ∧ (∀ (s : State) (ms : Nat), s.powered = true → s.supply.power = .run → s.duty.quantumTimer = .running ms →
      s.monitor.state = .running → s.tune.legal → s.board.engineSpeed.age ≠ .unknown →
      s.board.engineSpeed.value ≤ s.tune.engine.overspeed → (s.tune.engine.overspeed : Int) - 100 ≤ s.board.engineSpeed.value ∨
        s.duty.overspeedArmed = true → s.duty.overspeedCount = none → s.board.ptoSpeed.age = .unknown →
      s.board.inputSpeed.age = .unknown → s.duty.lastClutch ≠ some true → s.duty.window = none →
      let reached (limits : List Int) (v : Int) : Nat := (limits.filter (fun l => decide (l ≤ v))).length
      let e := s.tune.engine
      let cell := if s.board.engineTorque.age = .unknown then 16
        else 4 * reached [(e.s1 : Int), e.s2, e.s3] s.board.engineSpeed.value + reached [e.t1, e.t2, e.t3] s.board.engineTorque.value
      let idle := decide (s.board.engineSpeed.value ≤ (e.idle : Int)
        ∧ (s.board.outputSpeed.age = .unknown ∨ s.board.outputSpeed.value = 0))
      let gearCell := if s.board.gear.age = .unknown then 15 else if s.board.gear.value = 0 then 14
        else if s.board.gear.value = -1 then 12 else if s.board.gear.value = -2 then 13
        else if 1 ≤ s.board.gear.value ∧ s.board.gear.value ≤ 12 then s.board.gear.value.toNat - 1 else 15
      ∃ t : State, exec .quantumExpiry s = .next t
        ∧ t = { s with
            slots := t.slots, hires := t.hires
            duty := { s.duty with quantumTimer := .running 0, lastClutch := read s } }
        ∧ registerGains s t (fun c => { c with run := quantum c.run, idle := if idle then quantum c.idle else c.idle })
        ∧ (∀ i, findSlot s.slots .engine 1 ≠ some i → findSlot s.slots .gearbox 1 ≠ some i → t.slotAt i = s.slotAt i)
        ∧ (∀ i c b, findSlot s.slots .gearbox 1 = some i → s.slotAt i = some c → c.body = .gearbox b →
          t.slotAt i = some { c with body := .gearbox (if b.cells.sum < Config.timeCeiling then
            { b with cells := b.cells.modify gearCell quantum } else b) })
        ∧ (∀ i c b, findSlot s.slots .engine 1 = some i → s.slotAt i = some c → c.body = .engine b →
          t.slotAt i = some { c with body := .engine (if b.run < Config.timeCeiling then
            { b with
              run := b.run + 1
              idle := if idle then quantum b.idle else b.idle
              cells := b.cells.modify cell quantum } else b) }))
    ∧ (∀ s : State,
      let pto := s.board.ptoSpeed
      (pto.age = .unknown → s.meterPto = s)
        ∧ (pto.age ≠ .unknown → pto.value ≤ 100 → s.meterPto = { s with duty := { s.duty with ptoAbove := false } })
        ∧ (pto.age ≠ .unknown → 100 < pto.value →
          ∃ t : State, s.meterPto = t
            ∧ t = { s with slots := t.slots, hires := t.hires, duty := { s.duty with ptoAbove := true } }
            ∧ slotGains s t .pto (fun b => match b with
                | .pto b => .pto { b with
                    time := quantum b.time, engagements := if s.duty.ptoAbove then b.engagements else event b.engagements }
                | b => b)
            ∧ registerGains s t (fun c => { c with pto := quantum c.pto })))
    ∧ (∀ s : State, s.live →
      let speed := s.board.engineSpeed
      let limit : Int := s.tune.engine.overspeed
      (speed.age = .unknown → s.meterOverspeed = { s with duty := { s.duty with overspeedCount := none } })
        ∧ (speed.age ≠ .unknown → speed.value ≤ limit → s.meterOverspeed =
          { s with duty := { s.duty with
            overspeedCount := none
            overspeedArmed := if speed.value < limit - 100 then true else s.duty.overspeedArmed } })
        ∧ (speed.age ≠ .unknown → limit < speed.value →
          (s.duty.overspeedArmed = false → s.meterOverspeed = s)
            ∧ (s.duty.overspeedArmed = true → s.duty.overspeedCount = none →
              s.meterOverspeed = { s with duty := { s.duty with overspeedCount := some 0 } })
            ∧ (∀ n, s.duty.overspeedArmed = true → s.duty.overspeedCount = some n → n < 9 →
              s.meterOverspeed = { s with duty := { s.duty with overspeedCount := some (n + 1) } })
            ∧ (s.duty.overspeedArmed = true → s.duty.overspeedCount = some 9 →
              ∃ t : State, s.meterOverspeed = t
                ∧ t = { s with
                    slots := t.slots, hires := t.hires
                    duty := { s.duty with overspeedCount := none, overspeedArmed := false }
                    port := { s.port with notice := s.port.notice ||| 0x100 } }
                ∧ slotGains s t .engine (fun b => match b with
                    | .engine b => .engine { b with overspeeds := event b.overspeeds }
                    | b => b)
                ∧ registerGains s t (fun c => { c with overspeeds := event c.overspeeds }))))
    ∧ (∀ s : State,
      let slip := (s.board.engineSpeed.value - s.board.inputSpeed.value).natAbs
      let measured : Prop := s.board.engineSpeed.age ≠ .unknown ∧ s.board.inputSpeed.age ≠ .unknown
      let geared : Prop := s.board.gear.age ≠ .unknown
        ∧ ((1 ≤ s.board.gear.value ∧ s.board.gear.value ≤ 12) ∨ s.board.gear.value = -1 ∨ s.board.gear.value = -2)
      let accrues : Prop := measured ∧ s.tune.clutch.floor ≤ slip ∧ geared ∧ s.board.engineTorque.age ≠ .unknown
      let p (r : Nat) : Nat := s.board.engineTorque.value.natAbs * s.tune.engine.reference * slip + r
      (¬ accrues → s.meterSlip = s ∧ s.quantumJoules = 0)
        ∧ (∀ i c b, accrues → findSlot s.slots .clutch 1 = some i → s.slotAt i = some c → c.body = .clutch b →
          s.quantumJoules = p b.remainder / 19099
            ∧ ∃ t : State, s.meterSlip = t ∧ t = { s with slots := t.slots, hires := t.hires }
              ∧ slotGains s t .clutch (fun _ => .clutch (if b.energy < Config.energyCeiling then
                  { b with
                    energy := min Config.energyCeiling (b.energy + p b.remainder / 19099), remainder := p b.remainder % 19099 }
                  else b))
              ∧ registerGains s t (fun c => { c with
                  energy := min Config.energyCeiling (c.energy + p b.remainder / 19099) }))
        ∧ (accrues → findSlot s.slots .clutch 1 = none →
          s.quantumJoules = p s.duty.spare / 19099
            ∧ ∃ t : State, s.meterSlip = t
              ∧ t = { s with hires := t.hires, duty := { s.duty with spare := p s.duty.spare % 19099 } }
              ∧ registerGains s t (fun c => { c with
                  energy := min Config.energyCeiling (c.energy + p s.duty.spare / 19099) })))
    ∧ (∀ (s : State) (joules : Nat), s.live →
      let slip := (s.board.engineSpeed.value - s.board.inputSpeed.value).natAbs
      let measured : Prop := s.board.engineSpeed.age ≠ .unknown ∧ s.board.inputSpeed.age ≠ .unknown
      let due : Prop := s.duty.lastClutch = some true ∧ (s.board.clutch.age ≠ .unknown ∧ s.board.clutch.value = 0)
        ∧ s.board.gear.age ≠ .unknown ∧ -2 ≤ s.board.gear.value ∧ s.board.gear.value ≤ 12
      let judged (sum engaged : Nat) (after : Option Engagement) : Prop :=
        let hot := 1000 * s.tune.clutch.hotSlip < sum
        ∃ t : State, s.meterWindow joules = t
          ∧ t = { s with
              slots := t.slots, hires := t.hires, duty := { s.duty with window := after }
              port := { s.port with notice := if hot then s.port.notice ||| 0x100 else s.port.notice } }
          ∧ slotGains s t .clutch (fun b => match b with
              | .clutch b => .clutch { b with
                  engagements := if engaged = 1 then event b.engagements else b.engagements
                  hotSlips := if hot then event b.hotSlips else b.hotSlips }
              | b => b)
          ∧ registerGains s t (fun c => { c with
              engagements := if engaged = 1 then event c.engagements else c.engagements
              hotSlips := if hot then event c.hotSlips else c.hotSlips })
      (s.duty.window = none → ¬ due → s.meterWindow joules = s)
        ∧ (s.duty.window = none → due → judged 0 1 (some ⟨joules, 0, 0⟩))
        ∧ (∀ w, s.duty.window = some w → due → judged w.sum 1 (some ⟨joules, 0, 0⟩))
        ∧ (∀ w, s.duty.window = some w → ¬ due →
          let sum := min Config.energyCeiling (w.sum + joules)
          let quiet := if measured then (if slip < s.tune.clutch.floor then w.quiet + 1 else 0) else w.quiet
          (quiet < 5 → w.age + 1 < 50 →
            s.meterWindow joules = { s with duty := { s.duty with window := some ⟨sum, w.age + 1, quiet⟩ } })
            ∧ ((5 ≤ quiet ∨ 50 ≤ w.age + 1) → judged sum 0 none)))
    ∧ (∀ s : State,
      let v := s.board.gear.value
      let geared : Prop := s.board.gear.age ≠ .unknown ∧ ((1 ≤ v ∧ v ≤ 12) ∨ v = -1 ∨ v = -2)
      ((¬ geared ∨ s.supply.power ≠ .run ∨ s.duty.lastGear = some v) → s.dutyGear = s)
        ∧ (s.supply.power = .run → geared → s.duty.lastGear ≠ some v →
          (s.duty.lastGear = none ∨ s.monitor.state ≠ .running) →
          s.dutyGear = { s with duty := { s.duty with lastGear := some v } })
        ∧ (∀ old, s.supply.power = .run → geared → s.duty.lastGear = some old → old ≠ v → s.monitor.state = .running →
          ∃ t : State, s.dutyGear = t
            ∧ t = { s with slots := t.slots, hires := t.hires, duty := { s.duty with lastGear := some v } }
            ∧ slotGains s t .gearbox (fun b => match b with
                | .gearbox b => .gearbox { b with shifts := event b.shifts }
                | b => b)
            ∧ registerGains s t (fun c => { c with shifts := event c.shifts })))
    ∧ ∀ s : State, s.live →
      let sum := match s.duty.window with
        | some w => w.sum
        | none => 0
      let hot := 1000 * s.tune.clutch.hotSlip < sum
      ∃ t : State, s.dutyLeavesRunning = t
        ∧ t = { s with
            slots := t.slots, hires := t.hires
            duty := { s.duty with window := none, ptoAbove := false, overspeedCount := none }
            port := { s.port with notice := if hot then s.port.notice ||| 0x100 else s.port.notice } }
        ∧ slotGains s t .clutch (fun b => match b with
            | .clutch b => .clutch { b with hotSlips := if hot then event b.hotSlips else b.hotSlips }
            | b => b)
        ∧ registerGains s t (fun c => { c with hotSlips := if hot then event c.hotSlips else c.hotSlips })

/-! ### Supply and power states -/

/-- The battery's comparisons, at the levels of R162 for 12 V and twice them for 24 V. A fall below the crank-dip level sets the
dipped flag and a rise above the recovery level clears it, here with reports that the monitor does not use (R74, R75, R163); a
battery between the two only is measured (a command acts when the battery it carries stands beyond its level: the MODEL'S
CHOICE, notes/assumptions/5.md). A fall below the warning level starts the filter when armed and stops the re-arm timer when
not; a rise stops the filter and starts the re-arm timer when not armed (R164). In HOLD a rise above the restart level starts
the 250 ms dwell and a fall to or below it stops it (R165). Each changes the supply monitor alone. The warning filter's expiry
gives the warning (R164): LOWSUPPLY, a checkpoint, the filter stopped, the warning no longer armed. The re-arm timer's expiry
arms it again. -/
def Obligations.BatteryActsOnLevelsAndTimers : Prop :=
  (∀ (s : State) (mv : Nat), s.powered = true →
      let twice := match s.tune.supply.voltage with
        | .v12 => 1
        | .v24 => 2
      let measured : Supply := { s.supply with battery := mv }
      (mv < 10500 * twice → s.supply.dipped = false → s.tune.supply.crankSource = .line →
        exec (.batteryBelowCrankDip mv) s = .next { s with supply := { measured with dipped := true } })
        ∧ (11000 * twice < mv → s.supply.dipped = true → s.monitor.evidence ≠ some .dip →
          exec (.batteryAboveDipRecovery mv) s = .next { s with supply := { measured with dipped := false } })
        ∧ (10500 * twice ≤ mv → mv ≤ 11000 * twice →
          exec (.batteryBelowCrankDip mv) s = .next { s with supply := measured }
            ∧ exec (.batteryAboveDipRecovery mv) s = .next { s with supply := measured })
        ∧ (mv < 9000 * twice → s.supply.power ≠ .hold → s.supply.armed = true → s.supply.filter = .stopped →
          exec (.batteryBelowWarning mv) s = .next { s with supply := { measured with filter := .running 0 } })
        ∧ (mv < 9000 * twice → s.supply.power ≠ .hold → s.supply.armed = false →
          exec (.batteryBelowWarning mv) s = .next { s with supply := { measured with rearm := .stopped } })
        ∧ (9000 * twice < mv → s.supply.power ≠ .hold → s.supply.armed = true →
          exec (.batteryAboveWarning mv) s = .next { s with supply := { measured with filter := .stopped } })
        ∧ (9000 * twice < mv → s.supply.power ≠ .hold → s.supply.armed = false → s.supply.rearm = .stopped →
          exec (.batteryAboveWarning mv) s =
            .next { s with supply := { measured with filter := .stopped, rearm := .running 1000 } })
        ∧ (7000 * twice < mv → s.supply.power = .hold → s.supply.dwell = .stopped →
          exec (.batteryAboveRestart mv) s = .next { s with supply := { measured with dwell := .running 250 } })
        ∧ (mv ≤ 7000 * twice → s.supply.power = .hold →
          exec (.batteryAboveRestart mv) s = .next { s with supply := { measured with dwell := .stopped } }))
    ∧ (∀ (s : State) (ms : Nat), s.live →
      (s.supply.filter = .running ms → s.journalFree →
        ∃ t : State, exec .warningFilterExpiry s = .next t
          ∧ t = { s with
              supply := { s.supply with filter := .stopped, armed := false }, journal := t.journal
              port := { s.port with notice := s.port.notice ||| 0x08 } }
          ∧ t.journal.startedFrom s ∧ t.journal.waiting = s.journal.waiting.map (fun _ => true))
        ∧ (s.supply.rearm = .running ms → exec .rearmTimerExpiry s =
          .next { s with supply := { s.supply with rearm := .stopped, armed := true } }))

/-- The battery below the stop level in RUN or DOZE (R165): HOLD with the prior state recorded and the HOLD notice; the quantum and
windows abandoned (with no window running a mark's field is the MODEL'S CHOICE, notes/assumptions/23.md), the self-poll, filter, re-arm
and dwell timers stopped, doze and period timers frozen; the sensor supply OFF unless LOCKED-OFF (R51); a crank cut is shown as CATCHING
and the monitor's timers frozen (R84); a checkpoint in WRITING abandoned (R171). Samples that wait in RUN are taken before that entry, the
MODEL'S CHOICE (notes/assumptions/33.md). The restart dwell's expiry in HOLD: the entry to the prior state, the monitor's steps, the
warning's judgement, the journal's checkpoint, an order that is the MODEL'S CHOICE (DEDUCED, notes/assumptions/14.md). With nothing left
to judge it is written out for RUN and DOZE: doze and period timers resumed, sensor supply ON, windows, quantum and self-poll begun anew;
or every record UNKNOWN with QUANTITY (R23, R166). R85: a held crank that had caught is a start of its class and RUNNING; one that had not
has the full catch time, and a frozen catch timer goes on; CATCHING then by the speed counts a start, or, with IGN inactive, fails and
goes OFF, whose checkpoint holds the failed crank (the MODEL'S CHOICE, notes/assumptions/30.md). RUNNING keeps its resumed stop timer
below the stop threshold; with the speed unknown it stays with IGN active, and with IGN inactive confirms the stop. OFF with IGN active
arms, ARMED with IGN inactive goes OFF. At the run threshold OFF and ARMED do as at a hand-on, but for the first-reading flag, kept by the
MODEL'S CHOICE (notes/assumptions/25.md). The warning (R164): the filter from 0 below its level when armed, the re-arm timer above it when
not. The journal, IDLE, with another checkpoint pending or a slip waiting: a checkpoint with the slip attached (R165, R170). -/
def Obligations.HoldIsEnteredAndLeft : Prop :=
  let warning (s : State) : Nat := match s.tune.supply.voltage with
    | .v12 => 9000
    | .v24 => 18000
  (∀ (s : State) (mv : Nat), s.live → s.port.mem.wf → s.supply.power ≠ .hold →
      (mv < match s.tune.supply.voltage with
        | .v12 => 6000
        | .v24 => 12000) →
      let taken := s.takeWaiting (fun _ => true)
      ∃ t : State, exec (.batteryBelowStop mv) s = .next t
        ∧ t = { s with
            samples := if s.supply.power = .run then [] else s.samples, slots := taken.slots, hires := taken.hires
            supply := { s.supply with
              power := .hold, prior := s.supply.power, battery := mv, filter := .stopped, rearm := .stopped
              dwell := .stopped, doze := s.supply.doze.freeze }
            duty := { s.duty with quantumTimer := .stopped }
            scanner := { s.scanner with selfPoll := .stopped }
            pulse := { s.pulse.each (fun c => { c with edges := 0, mark := false }) with windows := false }
            sensor := if s.sensor.state = .lockedOff then s.sensor else ⟨.off, s.sensor.retry, .stopped, .stopped⟩
            monitor := t.monitor, journal := t.journal
            port := { s.port with mem := t.port.mem, notice := taken.port.notice ||| 0x10 } }
        ∧ t.monitor = (match s.monitor.state with
            | .cranking => { s.monitor with
                state := .catching, crankTimer := .stopped, evidence := none, heldCrank := true, catchTimer := .stopped }
            | .catching => { s.monitor with catchTimer := s.monitor.catchTimer.freeze }
            | .running => { s.monitor with stopTimer := s.monitor.stopTimer.freeze }
            | .off => s.monitor
            | .armed => s.monitor)
        ∧ t.journal = (if s.journal.writing = none
            then { s.journal with retry := .stopped, period := s.journal.period.freeze }
            else { s.journal with
              writing := none, another := true, waiting := s.journal.waiting.map (fun _ => false)
              retry := .stopped, period := s.journal.period.freeze })
        ∧ t.byteAt 0x04 = 2 ∧ (s.monitor.state = .cranking → t.byteAt 0x05 = 3)
        ∧ bytesKept s t (fun a => a = 0x04 ∨ (a = 0x05 ∧ s.monitor.state = .cranking)))
    ∧ (∀ (s : State) (ms doze period : Nat), s.live → s.port.mem.wf → s.supply.power = .hold → s.supply.prior = .run →
      s.supply.dwell = .running ms → s.supply.doze = .frozen doze → s.journal.period = .frozen period →
      s.supply.armed = true → warning s ≤ s.supply.battery →
      s.monitor.state = .off → s.monitor.heldCrank = false → s.monitor.catchTimer = .stopped → s.monitor.stopTimer = .stopped →
      s.lines.ign.level = false → (s.board.engineSpeed.age = .unknown ∨ s.board.engineSpeed.value < s.tune.start.run) →
      s.sensor.state = .off → s.sensor.retry = 0 → s.journal.another = false → s.journal.waiting = none →
      ∃ t : State, exec .restartDwellExpiry s = .next t
        ∧ t = { s with
            supply := { s.supply with power := .run, dwell := .stopped, doze := .running doze, started := true }
            sensor := ⟨.on, 0, .stopped, .stopped⟩
            pulse := { s.pulse.each (fun c => { c with edges := 0, mark := false }) with windows := true }
            duty := { s.duty with quantumTimer := .running 0, lastClutch := none }
            scanner := { s.scanner with selfPoll := .running 1000 }
            journal := { s.journal with period := .running period }
            port := { s.port with mem := t.port.mem } }
        ∧ t.byteAt 0x04 = 0 ∧ bytesKept s t (fun a => a = 0x04))
    ∧ (∀ (s : State) (ms : Nat), s.live → s.port.mem.wf → s.supply.power = .hold → s.supply.prior = .doze →
      s.supply.dwell = .running ms → s.supply.armed = true → warning s ≤ s.supply.battery →
      s.monitor.state = .off → s.monitor.heldCrank = false → s.monitor.catchTimer = .stopped → s.monitor.stopTimer = .stopped →
      s.lines.ign.level = false → s.journal.another = false → s.journal.waiting = none →
      ∃ t : State, exec .restartDwellExpiry s = .next t
        ∧ t = { s with
            supply := { s.supply with power := .doze, dwell := .stopped, doze := .stopped }
            duty := { s.duty with quantumTimer := .stopped }
            scanner := { s.scanner with selfPoll := .stopped }
            pulse := { s.pulse.each (fun c => { c with edges := 0, mark := false }) with windows := false }
            sensor := if s.sensor.state = .lockedOff then s.sensor else ⟨.off, s.sensor.retry, .stopped, .stopped⟩
            journal := { s.journal with period := s.journal.period.freeze }
            board := .powerOn
            port := { s.port with mem := t.port.mem, notice := t.port.notice } }
        ∧ ((∃ q, (s.board.get q).age ≠ .unknown) → t.port.notice = s.port.notice ||| 0x80)
        ∧ ((∀ q, (s.board.get q).age = .unknown) → t.port.notice = s.port.notice)
        ∧ t.byteAt 0x04 = 1
        ∧ (∀ q a, (s.board.get q).age ≠ .unknown → within (0x50 + 12 * quantityIndex q) 12 a → t.byteAt a = 0)
        ∧ bytesKept s t (fun a => a = 0x04
          ∨ ∃ q, (s.board.get q).age ≠ .unknown ∧ within (0x50 + 12 * quantityIndex q) 12 a))
    ∧ (∀ (s : State) (ms : Nat), s.powered = true → s.supply.power = .hold → s.supply.dwell = .running ms →
      let base : State := { s with supply := { s.supply with dwell := .stopped } }
      let entered := if s.supply.prior = .doze then base.enterDoze else base.enterRun
      exec .restartDwellExpiry s = .next entered.monitorLeaveHold.rejudgeWarning.journalLeaveHold)
    ∧ (∀ s : State, s.live → s.port.mem.wf → s.supply.power ≠ .hold → s.tune.start.stop ≤ s.tune.start.run →
      let m := s.monitor
      let gone : Supply := if s.supply.power = .run then { s.supply with doze := .running 30000 } else s.supply
      let runs (t : State) : Prop := t.byteAt 0x05 = 4 ∧ bytesKept s t (fun a => a = 0x05)
        ∧ slotGains s t .engine (fun b => match b with
          | .engine b => .engine { b with starts := startCounted s b.starts }
          | b => b)
        ∧ registerGains s t (fun c => { c with starts := startCounted s c.starts })
      let off (t : State) : Prop := t.byteAt 0x05 = 0 ∧ bytesKept s t (fun a => a = 0x05)
        ∧ t.journal.startedFrom { s with slots := t.slots, hires := t.hires }
        ∧ t.journal.waiting = s.journal.waiting.map (fun _ => true)
      (m.heldCrank = true → m.caught = true → m.state = .catching → m.stopTimer = .stopped →
        (s.board.engineSpeed.age ≠ .unknown ∨ s.lines.ign.level = true) →
        ∃ t : State, s.monitorLeaveHold = t ∧ runs t
          ∧ t = { s with
              slots := t.slots, hires := t.hires
              monitor := { m with
                state := .running, heldCrank := false, catchTimer := .stopped
                stopTimer := if s.board.engineSpeed.age ≠ .unknown ∧ s.board.engineSpeed.value < s.tune.start.stop
                  then .running 1000 else .stopped }
              port := { s.port with mem := t.port.mem } })
        ∧ (∀ left, m.state = .catching → m.stopTimer = .stopped →
          (m.heldCrank = true ∧ m.caught = false ∧ left = s.tune.start.catchTime
            ∨ m.heldCrank = false ∧ m.catchTimer = .frozen left) →
          (s.lines.ign.level = true → s.speedBelowRun → s.monitorLeaveHold =
            { s with monitor := { m with heldCrank := false, catchTimer := .running left } })
            ∧ (s.lines.ign.level = true → s.speedAtRun →
              ∃ t : State, s.monitorLeaveHold = t ∧ runs t
                ∧ t = { s with
                    slots := t.slots, hires := t.hires
                    monitor := { m with state := .running, heldCrank := false, catchTimer := .stopped }
                    port := { s.port with mem := t.port.mem } })
            ∧ (s.lines.ign.level = false → s.speedBelowRun → s.journalFree →
              ∃ t : State, s.monitorLeaveHold = t ∧ off t
                ∧ t = { s with
                    slots := t.slots, hires := t.hires, supply := gone, journal := t.journal
                    monitor := { m with state := .off, heldCrank := false, catchTimer := .stopped }
                    port := { s.port with mem := t.port.mem } }
                ∧ slotGains s t .starter (fun b => match b with
                  | .starter b => .starter { b with failed := min Config.eventCeiling (b.failed + 1) }
                  | b => b)
                ∧ registerGains s t (fun c => { c with failedCranks := min Config.eventCeiling (c.failedCranks + 1) })))
        ∧ (m.state = .running → m.heldCrank = false → m.catchTimer = .stopped →
          (∀ left, (m.stopTimer = .stopped ∧ left = 1000 ∨ m.stopTimer = .frozen left) → s.board.engineSpeed.age ≠ .unknown →
            s.monitorLeaveHold = { s with monitor := { m with
              stopTimer := if s.board.engineSpeed.value < s.tune.start.stop then .running left else .stopped } })
            ∧ (s.board.engineSpeed.age = .unknown → s.lines.ign.level = true →
              s.monitorLeaveHold = { s with monitor := { m with stopTimer := .stopped } })
            ∧ (s.board.engineSpeed.age = .unknown → s.lines.ign.level = false → s.duty.window = none → s.journalFree →
              ∃ t : State, s.monitorLeaveHold = t ∧ off t
                ∧ t = { s with
                    monitor := { m with state := .off, stopTimer := .stopped, lastStop := some s.supply.recorderTime }
                    duty := { s.duty with ptoAbove := false, overspeedCount := none }, supply := gone, journal := t.journal
                    port := { s.port with mem := t.port.mem } }))
        ∧ ((m.state = .off ∨ m.state = .armed) → m.heldCrank = false → m.catchTimer = .stopped → m.stopTimer = .stopped →
          let kept := if m.state = .off then s.lines.ign.level = false else s.lines.ign.level = true
          (kept → s.speedBelowRun → s.monitorLeaveHold = s)
            ∧ (kept → s.speedAtRun →
              ∃ u : State, s.speedHandOn = u ∧ s.monitorLeaveHold =
                { u with monitor := { u.monitor with firstReading := m.firstReading } })
            ∧ (m.state = .off → s.lines.ign.level = true → s.speedBelowRun →
              ∃ t : State, s.monitorLeaveHold = t ∧ t.byteAt 0x05 = 1 ∧ bytesKept s t (fun a => a = 0x05)
                ∧ t = { s with
                    monitor := { m with state := .armed }, supply := { s.supply with doze := .stopped }
                    port := { s.port with mem := t.port.mem } })
            ∧ (m.state = .armed → s.lines.ign.level = false → s.speedBelowRun → s.journalFree →
              ∃ t : State, s.monitorLeaveHold = t ∧ off t
                ∧ t = { s with
                    monitor := { m with state := .off }, supply := gone, journal := t.journal
                    port := { s.port with mem := t.port.mem } })))
    ∧ ∀ s : State,
      (s.supply.armed = true → s.supply.battery < warning s →
        s.rejudgeWarning = { s with supply := { s.supply with filter := .running 0 } })
        ∧ (s.supply.armed = false → warning s < s.supply.battery →
          s.rejudgeWarning = { s with supply := { s.supply with rearm := .running 1000 } })
        ∧ ((s.supply.armed = true → warning s ≤ s.supply.battery) →
          (s.supply.armed = false → s.supply.battery ≤ warning s) → s.rejudgeWarning = s)
        ∧ (s.journalFree → (s.journal.another = true ∨ s.journal.waiting ≠ none) →
          ∃ t : State, s.journalLeaveHold = t ∧ t = { s with journal := t.journal }
            ∧ t.journal.startedFrom s ∧ t.journal.waiting = s.journal.waiting.map (fun _ => true))
        ∧ (s.journal.another = false → s.journal.waiting = none → s.journalLeaveHold = s)

/-- The doze timer's expiry in RUN with IGN inactive and the monitor OFF (R166): with the PTO above 100 rpm it starts again at 30 s;
otherwise the samples that wait are taken, the MODEL'S CHOICE (notes/assumptions/33.md), and then DOZE, with the quantum, windows and
self-poll stopped, the sensor supply OFF unless LOCKED-OFF, the period timer frozen, every record UNKNOWN and the shadows empty, the marks
of the abandoned windows clear (the MODEL'S CHOICE, notes/assumptions/23.md), the mirror of each record that was known rewritten with
zeros and no other (R35), and QUANTITY if a record was known (R23). -/
def Obligations.DozeTimerExpires : Prop :=
  ∀ (s : State) (ms : Nat), s.live → s.port.mem.wf → s.supply.power = .run → s.supply.doze = .running ms →
    s.lines.ign.level = false → s.monitor.state = .off →
    (s.board.ptoSpeed.age ≠ .unknown → 100 < s.board.ptoSpeed.value →
      exec .dozeTimerExpiry s = .next { s with supply := { s.supply with doze := .running 30000 } })
      ∧ ((s.board.ptoSpeed.age = .unknown ∨ s.board.ptoSpeed.value ≤ 100) →
        let taken := s.takeWaiting (fun _ => true)
        ∃ t : State, exec .dozeTimerExpiry s = .next t
          ∧ t = { s with
              samples := [], slots := taken.slots, hires := taken.hires
              supply := { s.supply with power := .doze, doze := .stopped }
              duty := { s.duty with quantumTimer := .stopped }
              scanner := { s.scanner with selfPoll := .stopped }
              pulse := { s.pulse.each (fun c => { c with edges := 0, mark := false }) with windows := false }
              sensor := if s.sensor.state = .lockedOff then s.sensor else ⟨.off, s.sensor.retry, .stopped, .stopped⟩
              journal := { s.journal with period := s.journal.period.freeze }
              board := .powerOn
              port := { s.port with mem := t.port.mem, notice := t.port.notice } }
          ∧ ((∃ q, (s.board.get q).age ≠ .unknown) → t.port.notice = taken.port.notice ||| 0x80)
          ∧ ((∀ q, (s.board.get q).age = .unknown) → t.port.notice = taken.port.notice)
          ∧ t.byteAt 0x04 = 1
          ∧ (∀ q a, (s.board.get q).age ≠ .unknown → within (0x50 + 12 * quantityIndex q) 12 a → t.byteAt a = 0)
          ∧ bytesKept s t (fun a => a = 0x04
            ∨ ∃ q, (s.board.get q).age ≠ .unknown ∧ within (0x50 + 12 * quantityIndex q) 12 a))

/-- Recorder time advances by one, saturating at 2^40 - 1, in every power state, and its copy is rewritten (R167). Beside it only
timers move, and the age of each frame shadow, which keeps its value and time of arrival (R27): that they are kept to the quantum is
the MODEL'S CHOICE (notes/assumptions/3.md). -/
def Obligations.RecorderTimeAdvances : Prop :=
  ∀ s : State, s.live → s.port.mem.wf →
    ∃ t : State, exec .recorderTimeAdvance s = .next t
      ∧ t.supply.recorderTime = min (2 ^ 40 - 1) (s.supply.recorderTime + 1)
      ∧ memLe t.port.mem 8 0x18 = t.supply.recorderTime ∧ bytesKept s t (within 0x18 8)
      ∧ t = { s with
          board := t.board
          monitor := { s.monitor with
            crankTimer := t.monitor.crankTimer, catchTimer := t.monitor.catchTimer, stopTimer := t.monitor.stopTimer }
          supply := { s.supply with
            filter := t.supply.filter, rearm := t.supply.rearm, dwell := t.supply.dwell, doze := t.supply.doze
            recorderTime := t.supply.recorderTime }
          sensor := { s.sensor with offTimer := t.sensor.offTimer, trialTimer := t.sensor.trialTimer }
          scanner := { s.scanner with selfPoll := t.scanner.selfPoll }
          depot := { s.depot with timer := t.depot.timer }
          journal := { s.journal with period := t.journal.period, retry := t.journal.retry }
          port := { s.port with mem := t.port.mem } }
      ∧ (∀ q, t.board.get q = { s.board.get q with timer := (t.board.get q).timer })
      ∧ (let kept (h : Shadow) : Int × Nat := (h.value, h.arrivedAt)
        t.board.shadowEngine.map kept = s.board.shadowEngine.map kept
          ∧ t.board.shadowOutput.map kept = s.board.shadowOutput.map kept
          ∧ t.board.shadowGear.map kept = s.board.shadowGear.map kept)

/-! ### Journal, reset, power -/

/-- The period timer's expiry in RUN (R169) and the retry timer's (R171) start a checkpoint of the state as it stands, which a
waiting slip joins; a period that ends while a page is written leaves another pending. With the newest sequence at 2^32 - 1 no page
is written: TORN, another pending, an attached slip unattached, and the retry timer at 10 s. -/
def Obligations.JournalTimersStartCheckpoints : Prop :=
  ∀ (s : State) (ms : Nat), s.live →
    (s.supply.power = .run → s.journal.period = .running ms → s.journalFree →
      ∃ t : State, exec .periodTimerExpiry s = .next t ∧ t = { s with journal := t.journal }
        ∧ t.journal.startedFrom s ∧ t.journal.waiting = s.journal.waiting.map (fun _ => true))
      ∧ (s.supply.power = .run → s.journal.period = .running ms → s.journal.writing ≠ none →
        exec .periodTimerExpiry s = .next
          { s with journal := { s.journal with period := .running (1000 * s.tune.period), another := true } })
      ∧ (s.journal.retry = .running ms → s.journalFree →
        ∃ t : State, exec .retryTimerExpiry s = .next t ∧ t = { s with journal := t.journal }
          ∧ t.journal.startedFrom s ∧ t.journal.waiting = s.journal.waiting.map (fun _ => true))
      ∧ (s.journal.retry = .running ms → s.journal.writing = none → s.supply.power ≠ .hold →
        s.journal.newestSequence = 2 ^ 32 - 1 → exec .retryTimerExpiry s = .next
          { s with
            journal := { s.journal with
              period := s.restartedPeriod, another := true, retry := .running 10000
              waiting := s.journal.waiting.map (fun _ => false) }
            port := { s.port with notice := s.port.notice ||| 0x04 } })

/-- The end of a page write. Verified (R170), with no slip attached and nothing else pending: the page is the newest and whole, its
sequence and time are published, CHECKPOINT is set, the journal is IDLE. A page that fails (R171): TORN, and once more the same
snapshot on the next page with the next sequence; the second failure abandons the checkpoint, with another pending, an attached slip
unattached and the retry timer at 10 s. That the command changes nothing with no page in writing is the MODEL'S CHOICE
(notes/assumptions/6.md). -/
def Obligations.PageWriteEnds : Prop :=
  ∀ s : State, s.live →
    (∀ verified, s.journal.writing = none → exec (.checkpointWriteDone verified) s = .next s)
      ∧ ∀ w : Writing, s.journal.writing = some w →
        (s.port.mem.wf → s.journal.waiting ≠ some true → s.journal.another = false → w.sequence < 2 ^ 32 →
          w.staging.recorderTime < 2 ^ 40 →
          ∃ t : State, exec (.checkpointWriteDone true) s = .next t
            ∧ t = { s with
                journal := { s.journal with
                  pages := s.journal.pages.set w.page (.whole w.sequence w.staging), newestPage := some w.page
                  newestSequence := w.sequence, lastTime := w.staging.recorderTime, writing := none }
                port := { s.port with mem := t.port.mem, notice := s.port.notice ||| 0x02 } }
            ∧ memLe t.port.mem 4 0x14 = w.sequence ∧ memLe t.port.mem 8 0x20 = w.staging.recorderTime
            ∧ bytesKept s t (fun a => within 0x14 4 a ∨ within 0x20 8 a))
          ∧ (w.secondTry = false → w.sequence < 2 ^ 32 - 1 → exec (.checkpointWriteDone false) s = .next
            { s with
              journal := { s.journal with
                writing := some ⟨if w.page < 63 then w.page + 1 else 0, w.sequence + 1, true, w.staging⟩
                pages := s.journal.pages.set (if w.page < 63 then w.page + 1 else 0) (.torn (w.sequence + 1)) }
              port := { s.port with notice := s.port.notice ||| 0x04 } })
          ∧ (w.secondTry = true → exec (.checkpointWriteDone false) s = .next
            { s with
              journal := { s.journal with
                writing := none, another := true, retry := .running 10000
                waiting := s.journal.waiting.map (fun _ => false) }
              port := { s.port with notice := s.port.notice ||| 0x04 } })

/-- A verified page releases the slip attached to it (R150, R170): DONE, with the detail and out-length of its acceptance, a SAVE
with the low 16 bits of the page's sequence (R151); the journal has no slip waiting, and the scanner goes on, here to IDLE with
nothing handed over next. -/
def Obligations.VerifiedPageReleasesTheSlip : Prop :=
  ∀ (s : State) (w : Writing) (h : Held), s.live → s.port.mem.wf → s.ringLegal → s.journal.writing = some w →
    s.journal.another = false → s.journal.waiting = some true → s.scanner.state = .waitSave → s.scanner.held = some h →
    s.scanner.nudgePending = false → h.slip.referencesGood = true → h.used ≤ h.slip.outLength →
    let next := s.nextCursor h.slip.ringEnd
    let a := slipAddress s.scanner.cursor
    (next = s.scanner.cursor ∨ s.ownedByDevice next = false) →
    ∃ t : State, exec (.checkpointWriteDone true) s = .next t
      ∧ t = { s with scanner := t.scanner, journal := t.journal, port := { s.port with mem := t.port.mem, notice := t.port.notice } }
      ∧ t.scanner = { s.scanner with state := .idle, held := none, cursor := next }
      ∧ t.journal.waiting = none ∧ t.journal.writing = none ∧ t.journal.newestSequence = w.sequence
      ∧ t.byteAt a = 0 ∧ t.byteAt (a + 3) = BitVec.ofNat 8 Status.done.code
      ∧ memLe t.port.mem 2 (a + 12) = h.used % 65536
      ∧ memLe t.port.mem 2 (a + 14) = (if h.slip.kind = .save then w.sequence else h.detail) % 65536
      ∧ t.port.notice = s.port.notice ||| (if h.slip.notify = true then 3 else 2)

/-- The pin reset (R153): exchange memory zeroed, RING 16, the notices and the mask clear, the scanner IDLE at cursor 0 with no nudge
pending, every held slip, the FEED in progress and the waiting slip discarded, and everything else as it stood. At RESETn's rise every
field of the control block (12.3) is rewritten, with the last restart cause PIN, and nothing else changes. -/
def Obligations.PinResetClearsThePort : Prop :=
  ∀ s : State, s.powered = true →
    (s.resetLow = false → exec .pinReset s = .next
      { s with
        resetLow := true
        port := { s.port with mem := [], ring := 16, notice := 0, mask := 0 }
        scanner := { s.scanner with state := .idle, cursor := 0, nudgePending := false, held := none }
        intake := { s.intake with feed := none }
        journal := { s.journal with waiting := none } })
      ∧ (s.resetLow = true → s.port.mem.wf →
        ∃ t : State, exec .pinResetRelease s = .next t
          ∧ t = { s with resetLow := false, port := { s.port with cause := .pin, mem := t.port.mem } }
          ∧ t.controlBlockShown ∧ t.byteAt 0x0B = 2 ∧ bytesKept s t controlBlockBytes)

/-- The loss of supply leaves the pages as they stand (R171), and with them a page in writing, torn from the start of its write: that it
reads so is the MODEL'S CHOICE (notes/assumptions/11.md). Power-on (R172) restores the valid page with the highest sequence, with the
outcome TORN-SKIPPED and TORN set exactly when a page fails its check with a sequence above it; with no valid page the factory state and
BLANK. Everything else is at its power-on value: the lines at the raw levels given, waiting for their starting levels (R39), their
debounced levels inactive until then (the MODEL'S CHOICE, notes/assumptions/2.md), the monitor OFF with no evidence (R86), the journal
IDLE with nothing pending. By the levels of the voltage restored (R162): the dipped flag is set below the crank-dip level, with no report
(R163); below the warning level the filter starts (R164); below the stop level the part is in HOLD with the prior state RUN and HOLD set,
the filter stopped (R165), and else in power RUN, which it is before its entry to RUN (the MODEL'S CHOICE, notes/assumptions/24.md). Every
field of the control block is written, with the restart cause POWER-ON, and the rest of exchange memory is zero (R142). That RESETn is
high then is the MODEL'S CHOICE (notes/assumptions/20.md), and so is that a mark with no window running is clear
(notes/assumptions/23.md). -/
def Obligations.PowerIsLostAndRestored : Prop :=
  (∀ s : State, s.powered = true →
    ∃ t : State, exec .powerLoss s = .next t ∧ t.powered = false ∧ t.journal.pages = s.journal.pages ∧ t.pending = s.pending
      ∧ (s.journalLaw → ∀ w, s.journal.writing = some w → t.journal.pages[w.page]? = some (.torn w.sequence)))
    ∧ ∀ (s : State) (ign crank clutch reverse : Bool) (mv : Nat), s.powered = false →
      ∃ t : State, exec (.powerOn ign crank clutch reverse mv) s = .next t
        ∧ t = { State.reset with
            pending := s.pending, draws := s.draws
            lines := ⟨.powerOn ign, .powerOn crank, .powerOn clutch, .powerOn reverse⟩
            intake := { State.reset.intake with routes := t.intake.routes }
            slots := t.slots, hires := t.hires, tune := t.tune, supply := t.supply, journal := t.journal
            port := ⟨t.port.mem, 16, t.port.notice, 0, .powerOn⟩ }
        ∧ t.journal.pages = s.journal.pages
        ∧ (t.journal.writing = none ∧ t.journal.another = false ∧ t.journal.waiting = none ∧ t.journal.period = .stopped
          ∧ t.journal.retry = .stopped)
        ∧ (let twice := match t.tune.supply.voltage with
            | .v12 => 1
            | .v24 => 2
          t.supply =
              { power := if mv < 6000 * twice then .hold else .run
                prior := .run, dipped := decide (mv < 10500 * twice), armed := true
                filter := if 6000 * twice ≤ mv ∧ mv < 9000 * twice then .running 0 else .stopped
                rearm := .stopped, dwell := .stopped, doze := .stopped
                recorderTime := t.supply.recorderTime, battery := mv, started := false }
            ∧ (t.noticeSet .hold = true ↔ mv < 6000 * twice))
        ∧ (t.controlBlockShown ∧ ∀ a, a < Config.memorySize → ¬ controlBlockBytes a → t.byteAt a = 0)
        ∧ (∀ (i n : Nat) (c : Snapshot), s.journal.pages[i]? = some (.whole n c) → n ≠ 0 →
          (∀ (j m : Nat) (d : Snapshot), s.journal.pages[j]? = some (.whole m d) → j ≠ i → m < n) →
          (t.slots = c.slots ∧ t.hires.hire = c.hire ∧ t.hires.bucket = c.bucket ∧ t.tune = c.tune
            ∧ t.intake.routes = c.routes.map (fun e => ⟨e, none⟩) ∧ t.supply.recorderTime = c.recorderTime)
            ∧ (t.journal.newestPage = some i ∧ t.journal.newestSequence = n ∧ t.journal.lastTime = c.recorderTime)
            ∧ ((∃ (j m : Nat), s.journal.pages[j]? = some (.torn m) ∧ n < m) →
              t.journal.outcome = .tornSkipped ∧ t.noticeSet .torn = true)
            ∧ ((∀ (j m : Nat), s.journal.pages[j]? = some (.torn m) → m ≤ n) →
              t.journal.outcome = .restored ∧ t.noticeSet .torn = false))
        ∧ ((∀ (i n : Nat) (c : Snapshot), s.journal.pages[i]? = some (.whole n c) → n = 0) →
          t.journal.outcome = .blank ∧ t.noticeSet .torn = true ∧ t.slots = List.replicate 8 none ∧ t.hires.hire = none
            ∧ t.hires.bucket = ⟨0, .zero, []⟩ ∧ t.tune = .default ∧ t.intake.routes = [] ∧ t.supply.recorderTime = 0
            ∧ t.journal.newestPage = none ∧ t.journal.newestSequence = 0)
end

