-- ==== Sys2Proof/Laws/State.lean ====
section
/-! SUPPORT. Every field of State after every one-field update, true by rfl: no later proof unfolds an update. -/

namespace Sys2Proof.Machine

@[simp] theorem State.withPowered_pending (s : State) (v : Bool) : (s.withPowered v).pending = s.pending := rfl
@[simp] theorem State.withPowered_powered (s : State) (v : Bool) : (s.withPowered v).powered = v := rfl
@[simp] theorem State.withPowered_resetLow (s : State) (v : Bool) : (s.withPowered v).resetLow = s.resetLow := rfl
@[simp] theorem State.withPowered_port (s : State) (v : Bool) : (s.withPowered v).port = s.port := rfl
@[simp] theorem State.withPowered_scanner (s : State) (v : Bool) : (s.withPowered v).scanner = s.scanner := rfl
@[simp] theorem State.withPowered_intake (s : State) (v : Bool) : (s.withPowered v).intake = s.intake := rfl
@[simp] theorem State.withPowered_lines (s : State) (v : Bool) : (s.withPowered v).lines = s.lines := rfl
@[simp] theorem State.withPowered_pulse (s : State) (v : Bool) : (s.withPowered v).pulse = s.pulse := rfl
@[simp] theorem State.withPowered_sensor (s : State) (v : Bool) : (s.withPowered v).sensor = s.sensor := rfl
@[simp] theorem State.withPowered_board (s : State) (v : Bool) : (s.withPowered v).board = s.board := rfl
@[simp] theorem State.withPowered_monitor (s : State) (v : Bool) : (s.withPowered v).monitor = s.monitor := rfl
@[simp] theorem State.withPowered_duty (s : State) (v : Bool) : (s.withPowered v).duty = s.duty := rfl
@[simp] theorem State.withPowered_slots (s : State) (v : Bool) : (s.withPowered v).slots = s.slots := rfl
@[simp] theorem State.withPowered_samples (s : State) (v : Bool) : (s.withPowered v).samples = s.samples := rfl
@[simp] theorem State.withPowered_hires (s : State) (v : Bool) : (s.withPowered v).hires = s.hires := rfl
@[simp] theorem State.withPowered_depot (s : State) (v : Bool) : (s.withPowered v).depot = s.depot := rfl
@[simp] theorem State.withPowered_tune (s : State) (v : Bool) : (s.withPowered v).tune = s.tune := rfl
@[simp] theorem State.withPowered_supply (s : State) (v : Bool) : (s.withPowered v).supply = s.supply := rfl
@[simp] theorem State.withPowered_journal (s : State) (v : Bool) : (s.withPowered v).journal = s.journal := rfl
@[simp] theorem State.withPowered_draws (s : State) (v : Bool) : (s.withPowered v).draws = s.draws := rfl

@[simp] theorem State.withResetLow_pending (s : State) (v : Bool) : (s.withResetLow v).pending = s.pending := rfl
@[simp] theorem State.withResetLow_powered (s : State) (v : Bool) : (s.withResetLow v).powered = s.powered := rfl
@[simp] theorem State.withResetLow_resetLow (s : State) (v : Bool) : (s.withResetLow v).resetLow = v := rfl
@[simp] theorem State.withResetLow_port (s : State) (v : Bool) : (s.withResetLow v).port = s.port := rfl
@[simp] theorem State.withResetLow_scanner (s : State) (v : Bool) : (s.withResetLow v).scanner = s.scanner := rfl
@[simp] theorem State.withResetLow_intake (s : State) (v : Bool) : (s.withResetLow v).intake = s.intake := rfl
@[simp] theorem State.withResetLow_lines (s : State) (v : Bool) : (s.withResetLow v).lines = s.lines := rfl
@[simp] theorem State.withResetLow_pulse (s : State) (v : Bool) : (s.withResetLow v).pulse = s.pulse := rfl
@[simp] theorem State.withResetLow_sensor (s : State) (v : Bool) : (s.withResetLow v).sensor = s.sensor := rfl
@[simp] theorem State.withResetLow_board (s : State) (v : Bool) : (s.withResetLow v).board = s.board := rfl
@[simp] theorem State.withResetLow_monitor (s : State) (v : Bool) : (s.withResetLow v).monitor = s.monitor := rfl
@[simp] theorem State.withResetLow_duty (s : State) (v : Bool) : (s.withResetLow v).duty = s.duty := rfl
@[simp] theorem State.withResetLow_slots (s : State) (v : Bool) : (s.withResetLow v).slots = s.slots := rfl
@[simp] theorem State.withResetLow_samples (s : State) (v : Bool) : (s.withResetLow v).samples = s.samples := rfl
@[simp] theorem State.withResetLow_hires (s : State) (v : Bool) : (s.withResetLow v).hires = s.hires := rfl
@[simp] theorem State.withResetLow_depot (s : State) (v : Bool) : (s.withResetLow v).depot = s.depot := rfl
@[simp] theorem State.withResetLow_tune (s : State) (v : Bool) : (s.withResetLow v).tune = s.tune := rfl
@[simp] theorem State.withResetLow_supply (s : State) (v : Bool) : (s.withResetLow v).supply = s.supply := rfl
@[simp] theorem State.withResetLow_journal (s : State) (v : Bool) : (s.withResetLow v).journal = s.journal := rfl
@[simp] theorem State.withResetLow_draws (s : State) (v : Bool) : (s.withResetLow v).draws = s.draws := rfl

@[simp] theorem State.withPort_pending (s : State) (v : Port) : (s.withPort v).pending = s.pending := rfl
@[simp] theorem State.withPort_powered (s : State) (v : Port) : (s.withPort v).powered = s.powered := rfl
@[simp] theorem State.withPort_resetLow (s : State) (v : Port) : (s.withPort v).resetLow = s.resetLow := rfl
@[simp] theorem State.withPort_port (s : State) (v : Port) : (s.withPort v).port = v := rfl
@[simp] theorem State.withPort_scanner (s : State) (v : Port) : (s.withPort v).scanner = s.scanner := rfl
@[simp] theorem State.withPort_intake (s : State) (v : Port) : (s.withPort v).intake = s.intake := rfl
@[simp] theorem State.withPort_lines (s : State) (v : Port) : (s.withPort v).lines = s.lines := rfl
@[simp] theorem State.withPort_pulse (s : State) (v : Port) : (s.withPort v).pulse = s.pulse := rfl
@[simp] theorem State.withPort_sensor (s : State) (v : Port) : (s.withPort v).sensor = s.sensor := rfl
@[simp] theorem State.withPort_board (s : State) (v : Port) : (s.withPort v).board = s.board := rfl
@[simp] theorem State.withPort_monitor (s : State) (v : Port) : (s.withPort v).monitor = s.monitor := rfl
@[simp] theorem State.withPort_duty (s : State) (v : Port) : (s.withPort v).duty = s.duty := rfl
@[simp] theorem State.withPort_slots (s : State) (v : Port) : (s.withPort v).slots = s.slots := rfl
@[simp] theorem State.withPort_samples (s : State) (v : Port) : (s.withPort v).samples = s.samples := rfl
@[simp] theorem State.withPort_hires (s : State) (v : Port) : (s.withPort v).hires = s.hires := rfl
@[simp] theorem State.withPort_depot (s : State) (v : Port) : (s.withPort v).depot = s.depot := rfl
@[simp] theorem State.withPort_tune (s : State) (v : Port) : (s.withPort v).tune = s.tune := rfl
@[simp] theorem State.withPort_supply (s : State) (v : Port) : (s.withPort v).supply = s.supply := rfl
@[simp] theorem State.withPort_journal (s : State) (v : Port) : (s.withPort v).journal = s.journal := rfl
@[simp] theorem State.withPort_draws (s : State) (v : Port) : (s.withPort v).draws = s.draws := rfl

@[simp] theorem State.withScanner_pending (s : State) (v : Scanner) : (s.withScanner v).pending = s.pending := rfl
@[simp] theorem State.withScanner_powered (s : State) (v : Scanner) : (s.withScanner v).powered = s.powered := rfl
@[simp] theorem State.withScanner_resetLow (s : State) (v : Scanner) : (s.withScanner v).resetLow = s.resetLow := rfl
@[simp] theorem State.withScanner_port (s : State) (v : Scanner) : (s.withScanner v).port = s.port := rfl
@[simp] theorem State.withScanner_scanner (s : State) (v : Scanner) : (s.withScanner v).scanner = v := rfl
@[simp] theorem State.withScanner_intake (s : State) (v : Scanner) : (s.withScanner v).intake = s.intake := rfl
@[simp] theorem State.withScanner_lines (s : State) (v : Scanner) : (s.withScanner v).lines = s.lines := rfl
@[simp] theorem State.withScanner_pulse (s : State) (v : Scanner) : (s.withScanner v).pulse = s.pulse := rfl
@[simp] theorem State.withScanner_sensor (s : State) (v : Scanner) : (s.withScanner v).sensor = s.sensor := rfl
@[simp] theorem State.withScanner_board (s : State) (v : Scanner) : (s.withScanner v).board = s.board := rfl
@[simp] theorem State.withScanner_monitor (s : State) (v : Scanner) : (s.withScanner v).monitor = s.monitor := rfl
@[simp] theorem State.withScanner_duty (s : State) (v : Scanner) : (s.withScanner v).duty = s.duty := rfl
@[simp] theorem State.withScanner_slots (s : State) (v : Scanner) : (s.withScanner v).slots = s.slots := rfl
@[simp] theorem State.withScanner_samples (s : State) (v : Scanner) : (s.withScanner v).samples = s.samples := rfl
@[simp] theorem State.withScanner_hires (s : State) (v : Scanner) : (s.withScanner v).hires = s.hires := rfl
@[simp] theorem State.withScanner_depot (s : State) (v : Scanner) : (s.withScanner v).depot = s.depot := rfl
@[simp] theorem State.withScanner_tune (s : State) (v : Scanner) : (s.withScanner v).tune = s.tune := rfl
@[simp] theorem State.withScanner_supply (s : State) (v : Scanner) : (s.withScanner v).supply = s.supply := rfl
@[simp] theorem State.withScanner_journal (s : State) (v : Scanner) : (s.withScanner v).journal = s.journal := rfl
@[simp] theorem State.withScanner_draws (s : State) (v : Scanner) : (s.withScanner v).draws = s.draws := rfl

@[simp] theorem State.withIntake_pending (s : State) (v : Intake) : (s.withIntake v).pending = s.pending := rfl
@[simp] theorem State.withIntake_powered (s : State) (v : Intake) : (s.withIntake v).powered = s.powered := rfl
@[simp] theorem State.withIntake_resetLow (s : State) (v : Intake) : (s.withIntake v).resetLow = s.resetLow := rfl
@[simp] theorem State.withIntake_port (s : State) (v : Intake) : (s.withIntake v).port = s.port := rfl
@[simp] theorem State.withIntake_scanner (s : State) (v : Intake) : (s.withIntake v).scanner = s.scanner := rfl
@[simp] theorem State.withIntake_intake (s : State) (v : Intake) : (s.withIntake v).intake = v := rfl
@[simp] theorem State.withIntake_lines (s : State) (v : Intake) : (s.withIntake v).lines = s.lines := rfl
@[simp] theorem State.withIntake_pulse (s : State) (v : Intake) : (s.withIntake v).pulse = s.pulse := rfl
@[simp] theorem State.withIntake_sensor (s : State) (v : Intake) : (s.withIntake v).sensor = s.sensor := rfl
@[simp] theorem State.withIntake_board (s : State) (v : Intake) : (s.withIntake v).board = s.board := rfl
@[simp] theorem State.withIntake_monitor (s : State) (v : Intake) : (s.withIntake v).monitor = s.monitor := rfl
@[simp] theorem State.withIntake_duty (s : State) (v : Intake) : (s.withIntake v).duty = s.duty := rfl
@[simp] theorem State.withIntake_slots (s : State) (v : Intake) : (s.withIntake v).slots = s.slots := rfl
@[simp] theorem State.withIntake_samples (s : State) (v : Intake) : (s.withIntake v).samples = s.samples := rfl
@[simp] theorem State.withIntake_hires (s : State) (v : Intake) : (s.withIntake v).hires = s.hires := rfl
@[simp] theorem State.withIntake_depot (s : State) (v : Intake) : (s.withIntake v).depot = s.depot := rfl
@[simp] theorem State.withIntake_tune (s : State) (v : Intake) : (s.withIntake v).tune = s.tune := rfl
@[simp] theorem State.withIntake_supply (s : State) (v : Intake) : (s.withIntake v).supply = s.supply := rfl
@[simp] theorem State.withIntake_journal (s : State) (v : Intake) : (s.withIntake v).journal = s.journal := rfl
@[simp] theorem State.withIntake_draws (s : State) (v : Intake) : (s.withIntake v).draws = s.draws := rfl

@[simp] theorem State.withLines_pending (s : State) (v : Lines) : (s.withLines v).pending = s.pending := rfl
@[simp] theorem State.withLines_powered (s : State) (v : Lines) : (s.withLines v).powered = s.powered := rfl
@[simp] theorem State.withLines_resetLow (s : State) (v : Lines) : (s.withLines v).resetLow = s.resetLow := rfl
@[simp] theorem State.withLines_port (s : State) (v : Lines) : (s.withLines v).port = s.port := rfl
@[simp] theorem State.withLines_scanner (s : State) (v : Lines) : (s.withLines v).scanner = s.scanner := rfl
@[simp] theorem State.withLines_intake (s : State) (v : Lines) : (s.withLines v).intake = s.intake := rfl
@[simp] theorem State.withLines_lines (s : State) (v : Lines) : (s.withLines v).lines = v := rfl
@[simp] theorem State.withLines_pulse (s : State) (v : Lines) : (s.withLines v).pulse = s.pulse := rfl
@[simp] theorem State.withLines_sensor (s : State) (v : Lines) : (s.withLines v).sensor = s.sensor := rfl
@[simp] theorem State.withLines_board (s : State) (v : Lines) : (s.withLines v).board = s.board := rfl
@[simp] theorem State.withLines_monitor (s : State) (v : Lines) : (s.withLines v).monitor = s.monitor := rfl
@[simp] theorem State.withLines_duty (s : State) (v : Lines) : (s.withLines v).duty = s.duty := rfl
@[simp] theorem State.withLines_slots (s : State) (v : Lines) : (s.withLines v).slots = s.slots := rfl
@[simp] theorem State.withLines_samples (s : State) (v : Lines) : (s.withLines v).samples = s.samples := rfl
@[simp] theorem State.withLines_hires (s : State) (v : Lines) : (s.withLines v).hires = s.hires := rfl
@[simp] theorem State.withLines_depot (s : State) (v : Lines) : (s.withLines v).depot = s.depot := rfl
@[simp] theorem State.withLines_tune (s : State) (v : Lines) : (s.withLines v).tune = s.tune := rfl
@[simp] theorem State.withLines_supply (s : State) (v : Lines) : (s.withLines v).supply = s.supply := rfl
@[simp] theorem State.withLines_journal (s : State) (v : Lines) : (s.withLines v).journal = s.journal := rfl
@[simp] theorem State.withLines_draws (s : State) (v : Lines) : (s.withLines v).draws = s.draws := rfl

@[simp] theorem State.withPulse_pending (s : State) (v : Pulse) : (s.withPulse v).pending = s.pending := rfl
@[simp] theorem State.withPulse_powered (s : State) (v : Pulse) : (s.withPulse v).powered = s.powered := rfl
@[simp] theorem State.withPulse_resetLow (s : State) (v : Pulse) : (s.withPulse v).resetLow = s.resetLow := rfl
@[simp] theorem State.withPulse_port (s : State) (v : Pulse) : (s.withPulse v).port = s.port := rfl
@[simp] theorem State.withPulse_scanner (s : State) (v : Pulse) : (s.withPulse v).scanner = s.scanner := rfl
@[simp] theorem State.withPulse_intake (s : State) (v : Pulse) : (s.withPulse v).intake = s.intake := rfl
@[simp] theorem State.withPulse_lines (s : State) (v : Pulse) : (s.withPulse v).lines = s.lines := rfl
@[simp] theorem State.withPulse_pulse (s : State) (v : Pulse) : (s.withPulse v).pulse = v := rfl
@[simp] theorem State.withPulse_sensor (s : State) (v : Pulse) : (s.withPulse v).sensor = s.sensor := rfl
@[simp] theorem State.withPulse_board (s : State) (v : Pulse) : (s.withPulse v).board = s.board := rfl
@[simp] theorem State.withPulse_monitor (s : State) (v : Pulse) : (s.withPulse v).monitor = s.monitor := rfl
@[simp] theorem State.withPulse_duty (s : State) (v : Pulse) : (s.withPulse v).duty = s.duty := rfl
@[simp] theorem State.withPulse_slots (s : State) (v : Pulse) : (s.withPulse v).slots = s.slots := rfl
@[simp] theorem State.withPulse_samples (s : State) (v : Pulse) : (s.withPulse v).samples = s.samples := rfl
@[simp] theorem State.withPulse_hires (s : State) (v : Pulse) : (s.withPulse v).hires = s.hires := rfl
@[simp] theorem State.withPulse_depot (s : State) (v : Pulse) : (s.withPulse v).depot = s.depot := rfl
@[simp] theorem State.withPulse_tune (s : State) (v : Pulse) : (s.withPulse v).tune = s.tune := rfl
@[simp] theorem State.withPulse_supply (s : State) (v : Pulse) : (s.withPulse v).supply = s.supply := rfl
@[simp] theorem State.withPulse_journal (s : State) (v : Pulse) : (s.withPulse v).journal = s.journal := rfl
@[simp] theorem State.withPulse_draws (s : State) (v : Pulse) : (s.withPulse v).draws = s.draws := rfl

@[simp] theorem State.withSensor_pending (s : State) (v : Sensor) : (s.withSensor v).pending = s.pending := rfl
@[simp] theorem State.withSensor_powered (s : State) (v : Sensor) : (s.withSensor v).powered = s.powered := rfl
@[simp] theorem State.withSensor_resetLow (s : State) (v : Sensor) : (s.withSensor v).resetLow = s.resetLow := rfl
@[simp] theorem State.withSensor_port (s : State) (v : Sensor) : (s.withSensor v).port = s.port := rfl
@[simp] theorem State.withSensor_scanner (s : State) (v : Sensor) : (s.withSensor v).scanner = s.scanner := rfl
@[simp] theorem State.withSensor_intake (s : State) (v : Sensor) : (s.withSensor v).intake = s.intake := rfl
@[simp] theorem State.withSensor_lines (s : State) (v : Sensor) : (s.withSensor v).lines = s.lines := rfl
@[simp] theorem State.withSensor_pulse (s : State) (v : Sensor) : (s.withSensor v).pulse = s.pulse := rfl
@[simp] theorem State.withSensor_sensor (s : State) (v : Sensor) : (s.withSensor v).sensor = v := rfl
@[simp] theorem State.withSensor_board (s : State) (v : Sensor) : (s.withSensor v).board = s.board := rfl
@[simp] theorem State.withSensor_monitor (s : State) (v : Sensor) : (s.withSensor v).monitor = s.monitor := rfl
@[simp] theorem State.withSensor_duty (s : State) (v : Sensor) : (s.withSensor v).duty = s.duty := rfl
@[simp] theorem State.withSensor_slots (s : State) (v : Sensor) : (s.withSensor v).slots = s.slots := rfl
@[simp] theorem State.withSensor_samples (s : State) (v : Sensor) : (s.withSensor v).samples = s.samples := rfl
@[simp] theorem State.withSensor_hires (s : State) (v : Sensor) : (s.withSensor v).hires = s.hires := rfl
@[simp] theorem State.withSensor_depot (s : State) (v : Sensor) : (s.withSensor v).depot = s.depot := rfl
@[simp] theorem State.withSensor_tune (s : State) (v : Sensor) : (s.withSensor v).tune = s.tune := rfl
@[simp] theorem State.withSensor_supply (s : State) (v : Sensor) : (s.withSensor v).supply = s.supply := rfl
@[simp] theorem State.withSensor_journal (s : State) (v : Sensor) : (s.withSensor v).journal = s.journal := rfl
@[simp] theorem State.withSensor_draws (s : State) (v : Sensor) : (s.withSensor v).draws = s.draws := rfl

@[simp] theorem State.withBoard_pending (s : State) (v : Board) : (s.withBoard v).pending = s.pending := rfl
@[simp] theorem State.withBoard_powered (s : State) (v : Board) : (s.withBoard v).powered = s.powered := rfl
@[simp] theorem State.withBoard_resetLow (s : State) (v : Board) : (s.withBoard v).resetLow = s.resetLow := rfl
@[simp] theorem State.withBoard_port (s : State) (v : Board) : (s.withBoard v).port = s.port := rfl
@[simp] theorem State.withBoard_scanner (s : State) (v : Board) : (s.withBoard v).scanner = s.scanner := rfl
@[simp] theorem State.withBoard_intake (s : State) (v : Board) : (s.withBoard v).intake = s.intake := rfl
@[simp] theorem State.withBoard_lines (s : State) (v : Board) : (s.withBoard v).lines = s.lines := rfl
@[simp] theorem State.withBoard_pulse (s : State) (v : Board) : (s.withBoard v).pulse = s.pulse := rfl
@[simp] theorem State.withBoard_sensor (s : State) (v : Board) : (s.withBoard v).sensor = s.sensor := rfl
@[simp] theorem State.withBoard_board (s : State) (v : Board) : (s.withBoard v).board = v := rfl
@[simp] theorem State.withBoard_monitor (s : State) (v : Board) : (s.withBoard v).monitor = s.monitor := rfl
@[simp] theorem State.withBoard_duty (s : State) (v : Board) : (s.withBoard v).duty = s.duty := rfl
@[simp] theorem State.withBoard_slots (s : State) (v : Board) : (s.withBoard v).slots = s.slots := rfl
@[simp] theorem State.withBoard_samples (s : State) (v : Board) : (s.withBoard v).samples = s.samples := rfl
@[simp] theorem State.withBoard_hires (s : State) (v : Board) : (s.withBoard v).hires = s.hires := rfl
@[simp] theorem State.withBoard_depot (s : State) (v : Board) : (s.withBoard v).depot = s.depot := rfl
@[simp] theorem State.withBoard_tune (s : State) (v : Board) : (s.withBoard v).tune = s.tune := rfl
@[simp] theorem State.withBoard_supply (s : State) (v : Board) : (s.withBoard v).supply = s.supply := rfl
@[simp] theorem State.withBoard_journal (s : State) (v : Board) : (s.withBoard v).journal = s.journal := rfl
@[simp] theorem State.withBoard_draws (s : State) (v : Board) : (s.withBoard v).draws = s.draws := rfl

@[simp] theorem State.withMonitor_pending (s : State) (v : Monitor) : (s.withMonitor v).pending = s.pending := rfl
@[simp] theorem State.withMonitor_powered (s : State) (v : Monitor) : (s.withMonitor v).powered = s.powered := rfl
@[simp] theorem State.withMonitor_resetLow (s : State) (v : Monitor) : (s.withMonitor v).resetLow = s.resetLow := rfl
@[simp] theorem State.withMonitor_port (s : State) (v : Monitor) : (s.withMonitor v).port = s.port := rfl
@[simp] theorem State.withMonitor_scanner (s : State) (v : Monitor) : (s.withMonitor v).scanner = s.scanner := rfl
@[simp] theorem State.withMonitor_intake (s : State) (v : Monitor) : (s.withMonitor v).intake = s.intake := rfl
@[simp] theorem State.withMonitor_lines (s : State) (v : Monitor) : (s.withMonitor v).lines = s.lines := rfl
@[simp] theorem State.withMonitor_pulse (s : State) (v : Monitor) : (s.withMonitor v).pulse = s.pulse := rfl
@[simp] theorem State.withMonitor_sensor (s : State) (v : Monitor) : (s.withMonitor v).sensor = s.sensor := rfl
@[simp] theorem State.withMonitor_board (s : State) (v : Monitor) : (s.withMonitor v).board = s.board := rfl
@[simp] theorem State.withMonitor_monitor (s : State) (v : Monitor) : (s.withMonitor v).monitor = v := rfl
@[simp] theorem State.withMonitor_duty (s : State) (v : Monitor) : (s.withMonitor v).duty = s.duty := rfl
@[simp] theorem State.withMonitor_slots (s : State) (v : Monitor) : (s.withMonitor v).slots = s.slots := rfl
@[simp] theorem State.withMonitor_samples (s : State) (v : Monitor) : (s.withMonitor v).samples = s.samples := rfl
@[simp] theorem State.withMonitor_hires (s : State) (v : Monitor) : (s.withMonitor v).hires = s.hires := rfl
@[simp] theorem State.withMonitor_depot (s : State) (v : Monitor) : (s.withMonitor v).depot = s.depot := rfl
@[simp] theorem State.withMonitor_tune (s : State) (v : Monitor) : (s.withMonitor v).tune = s.tune := rfl
@[simp] theorem State.withMonitor_supply (s : State) (v : Monitor) : (s.withMonitor v).supply = s.supply := rfl
@[simp] theorem State.withMonitor_journal (s : State) (v : Monitor) : (s.withMonitor v).journal = s.journal := rfl
@[simp] theorem State.withMonitor_draws (s : State) (v : Monitor) : (s.withMonitor v).draws = s.draws := rfl

@[simp] theorem State.withDuty_pending (s : State) (v : Duty) : (s.withDuty v).pending = s.pending := rfl
@[simp] theorem State.withDuty_powered (s : State) (v : Duty) : (s.withDuty v).powered = s.powered := rfl
@[simp] theorem State.withDuty_resetLow (s : State) (v : Duty) : (s.withDuty v).resetLow = s.resetLow := rfl
@[simp] theorem State.withDuty_port (s : State) (v : Duty) : (s.withDuty v).port = s.port := rfl
@[simp] theorem State.withDuty_scanner (s : State) (v : Duty) : (s.withDuty v).scanner = s.scanner := rfl
@[simp] theorem State.withDuty_intake (s : State) (v : Duty) : (s.withDuty v).intake = s.intake := rfl
@[simp] theorem State.withDuty_lines (s : State) (v : Duty) : (s.withDuty v).lines = s.lines := rfl
@[simp] theorem State.withDuty_pulse (s : State) (v : Duty) : (s.withDuty v).pulse = s.pulse := rfl
@[simp] theorem State.withDuty_sensor (s : State) (v : Duty) : (s.withDuty v).sensor = s.sensor := rfl
@[simp] theorem State.withDuty_board (s : State) (v : Duty) : (s.withDuty v).board = s.board := rfl
@[simp] theorem State.withDuty_monitor (s : State) (v : Duty) : (s.withDuty v).monitor = s.monitor := rfl
@[simp] theorem State.withDuty_duty (s : State) (v : Duty) : (s.withDuty v).duty = v := rfl
@[simp] theorem State.withDuty_slots (s : State) (v : Duty) : (s.withDuty v).slots = s.slots := rfl
@[simp] theorem State.withDuty_samples (s : State) (v : Duty) : (s.withDuty v).samples = s.samples := rfl
@[simp] theorem State.withDuty_hires (s : State) (v : Duty) : (s.withDuty v).hires = s.hires := rfl
@[simp] theorem State.withDuty_depot (s : State) (v : Duty) : (s.withDuty v).depot = s.depot := rfl
@[simp] theorem State.withDuty_tune (s : State) (v : Duty) : (s.withDuty v).tune = s.tune := rfl
@[simp] theorem State.withDuty_supply (s : State) (v : Duty) : (s.withDuty v).supply = s.supply := rfl
@[simp] theorem State.withDuty_journal (s : State) (v : Duty) : (s.withDuty v).journal = s.journal := rfl
@[simp] theorem State.withDuty_draws (s : State) (v : Duty) : (s.withDuty v).draws = s.draws := rfl

@[simp] theorem State.withSlots_pending (s : State) (v : List (Option Component)) : (s.withSlots v).pending = s.pending := rfl
@[simp] theorem State.withSlots_powered (s : State) (v : List (Option Component)) : (s.withSlots v).powered = s.powered := rfl
@[simp] theorem State.withSlots_resetLow (s : State) (v : List (Option Component)) : (s.withSlots v).resetLow = s.resetLow := rfl
@[simp] theorem State.withSlots_port (s : State) (v : List (Option Component)) : (s.withSlots v).port = s.port := rfl
@[simp] theorem State.withSlots_scanner (s : State) (v : List (Option Component)) : (s.withSlots v).scanner = s.scanner := rfl
@[simp] theorem State.withSlots_intake (s : State) (v : List (Option Component)) : (s.withSlots v).intake = s.intake := rfl
@[simp] theorem State.withSlots_lines (s : State) (v : List (Option Component)) : (s.withSlots v).lines = s.lines := rfl
@[simp] theorem State.withSlots_pulse (s : State) (v : List (Option Component)) : (s.withSlots v).pulse = s.pulse := rfl
@[simp] theorem State.withSlots_sensor (s : State) (v : List (Option Component)) : (s.withSlots v).sensor = s.sensor := rfl
@[simp] theorem State.withSlots_board (s : State) (v : List (Option Component)) : (s.withSlots v).board = s.board := rfl
@[simp] theorem State.withSlots_monitor (s : State) (v : List (Option Component)) : (s.withSlots v).monitor = s.monitor := rfl
@[simp] theorem State.withSlots_duty (s : State) (v : List (Option Component)) : (s.withSlots v).duty = s.duty := rfl
@[simp] theorem State.withSlots_slots (s : State) (v : List (Option Component)) : (s.withSlots v).slots = v := rfl
@[simp] theorem State.withSlots_samples (s : State) (v : List (Option Component)) : (s.withSlots v).samples = s.samples := rfl
@[simp] theorem State.withSlots_hires (s : State) (v : List (Option Component)) : (s.withSlots v).hires = s.hires := rfl
@[simp] theorem State.withSlots_depot (s : State) (v : List (Option Component)) : (s.withSlots v).depot = s.depot := rfl
@[simp] theorem State.withSlots_tune (s : State) (v : List (Option Component)) : (s.withSlots v).tune = s.tune := rfl
@[simp] theorem State.withSlots_supply (s : State) (v : List (Option Component)) : (s.withSlots v).supply = s.supply := rfl
@[simp] theorem State.withSlots_journal (s : State) (v : List (Option Component)) : (s.withSlots v).journal = s.journal := rfl
@[simp] theorem State.withSlots_draws (s : State) (v : List (Option Component)) : (s.withSlots v).draws = s.draws := rfl

@[simp] theorem State.withSamples_pending (s : State) (v : List SlotSample) : (s.withSamples v).pending = s.pending := rfl
@[simp] theorem State.withSamples_powered (s : State) (v : List SlotSample) : (s.withSamples v).powered = s.powered := rfl
@[simp] theorem State.withSamples_resetLow (s : State) (v : List SlotSample) : (s.withSamples v).resetLow = s.resetLow := rfl
@[simp] theorem State.withSamples_port (s : State) (v : List SlotSample) : (s.withSamples v).port = s.port := rfl
@[simp] theorem State.withSamples_scanner (s : State) (v : List SlotSample) : (s.withSamples v).scanner = s.scanner := rfl
@[simp] theorem State.withSamples_intake (s : State) (v : List SlotSample) : (s.withSamples v).intake = s.intake := rfl
@[simp] theorem State.withSamples_lines (s : State) (v : List SlotSample) : (s.withSamples v).lines = s.lines := rfl
@[simp] theorem State.withSamples_pulse (s : State) (v : List SlotSample) : (s.withSamples v).pulse = s.pulse := rfl
@[simp] theorem State.withSamples_sensor (s : State) (v : List SlotSample) : (s.withSamples v).sensor = s.sensor := rfl
@[simp] theorem State.withSamples_board (s : State) (v : List SlotSample) : (s.withSamples v).board = s.board := rfl
@[simp] theorem State.withSamples_monitor (s : State) (v : List SlotSample) : (s.withSamples v).monitor = s.monitor := rfl
@[simp] theorem State.withSamples_duty (s : State) (v : List SlotSample) : (s.withSamples v).duty = s.duty := rfl
@[simp] theorem State.withSamples_slots (s : State) (v : List SlotSample) : (s.withSamples v).slots = s.slots := rfl
@[simp] theorem State.withSamples_samples (s : State) (v : List SlotSample) : (s.withSamples v).samples = v := rfl
@[simp] theorem State.withSamples_hires (s : State) (v : List SlotSample) : (s.withSamples v).hires = s.hires := rfl
@[simp] theorem State.withSamples_depot (s : State) (v : List SlotSample) : (s.withSamples v).depot = s.depot := rfl
@[simp] theorem State.withSamples_tune (s : State) (v : List SlotSample) : (s.withSamples v).tune = s.tune := rfl
@[simp] theorem State.withSamples_supply (s : State) (v : List SlotSample) : (s.withSamples v).supply = s.supply := rfl
@[simp] theorem State.withSamples_journal (s : State) (v : List SlotSample) : (s.withSamples v).journal = s.journal := rfl
@[simp] theorem State.withSamples_draws (s : State) (v : List SlotSample) : (s.withSamples v).draws = s.draws := rfl

@[simp] theorem State.withHires_pending (s : State) (v : HireRegister) : (s.withHires v).pending = s.pending := rfl
@[simp] theorem State.withHires_powered (s : State) (v : HireRegister) : (s.withHires v).powered = s.powered := rfl
@[simp] theorem State.withHires_resetLow (s : State) (v : HireRegister) : (s.withHires v).resetLow = s.resetLow := rfl
@[simp] theorem State.withHires_port (s : State) (v : HireRegister) : (s.withHires v).port = s.port := rfl
@[simp] theorem State.withHires_scanner (s : State) (v : HireRegister) : (s.withHires v).scanner = s.scanner := rfl
@[simp] theorem State.withHires_intake (s : State) (v : HireRegister) : (s.withHires v).intake = s.intake := rfl
@[simp] theorem State.withHires_lines (s : State) (v : HireRegister) : (s.withHires v).lines = s.lines := rfl
@[simp] theorem State.withHires_pulse (s : State) (v : HireRegister) : (s.withHires v).pulse = s.pulse := rfl
@[simp] theorem State.withHires_sensor (s : State) (v : HireRegister) : (s.withHires v).sensor = s.sensor := rfl
@[simp] theorem State.withHires_board (s : State) (v : HireRegister) : (s.withHires v).board = s.board := rfl
@[simp] theorem State.withHires_monitor (s : State) (v : HireRegister) : (s.withHires v).monitor = s.monitor := rfl
@[simp] theorem State.withHires_duty (s : State) (v : HireRegister) : (s.withHires v).duty = s.duty := rfl
@[simp] theorem State.withHires_slots (s : State) (v : HireRegister) : (s.withHires v).slots = s.slots := rfl
@[simp] theorem State.withHires_samples (s : State) (v : HireRegister) : (s.withHires v).samples = s.samples := rfl
@[simp] theorem State.withHires_hires (s : State) (v : HireRegister) : (s.withHires v).hires = v := rfl
@[simp] theorem State.withHires_depot (s : State) (v : HireRegister) : (s.withHires v).depot = s.depot := rfl
@[simp] theorem State.withHires_tune (s : State) (v : HireRegister) : (s.withHires v).tune = s.tune := rfl
@[simp] theorem State.withHires_supply (s : State) (v : HireRegister) : (s.withHires v).supply = s.supply := rfl
@[simp] theorem State.withHires_journal (s : State) (v : HireRegister) : (s.withHires v).journal = s.journal := rfl
@[simp] theorem State.withHires_draws (s : State) (v : HireRegister) : (s.withHires v).draws = s.draws := rfl

@[simp] theorem State.withDepot_pending (s : State) (v : Depot) : (s.withDepot v).pending = s.pending := rfl
@[simp] theorem State.withDepot_powered (s : State) (v : Depot) : (s.withDepot v).powered = s.powered := rfl
@[simp] theorem State.withDepot_resetLow (s : State) (v : Depot) : (s.withDepot v).resetLow = s.resetLow := rfl
@[simp] theorem State.withDepot_port (s : State) (v : Depot) : (s.withDepot v).port = s.port := rfl
@[simp] theorem State.withDepot_scanner (s : State) (v : Depot) : (s.withDepot v).scanner = s.scanner := rfl
@[simp] theorem State.withDepot_intake (s : State) (v : Depot) : (s.withDepot v).intake = s.intake := rfl
@[simp] theorem State.withDepot_lines (s : State) (v : Depot) : (s.withDepot v).lines = s.lines := rfl
@[simp] theorem State.withDepot_pulse (s : State) (v : Depot) : (s.withDepot v).pulse = s.pulse := rfl
@[simp] theorem State.withDepot_sensor (s : State) (v : Depot) : (s.withDepot v).sensor = s.sensor := rfl
@[simp] theorem State.withDepot_board (s : State) (v : Depot) : (s.withDepot v).board = s.board := rfl
@[simp] theorem State.withDepot_monitor (s : State) (v : Depot) : (s.withDepot v).monitor = s.monitor := rfl
@[simp] theorem State.withDepot_duty (s : State) (v : Depot) : (s.withDepot v).duty = s.duty := rfl
@[simp] theorem State.withDepot_slots (s : State) (v : Depot) : (s.withDepot v).slots = s.slots := rfl
@[simp] theorem State.withDepot_samples (s : State) (v : Depot) : (s.withDepot v).samples = s.samples := rfl
@[simp] theorem State.withDepot_hires (s : State) (v : Depot) : (s.withDepot v).hires = s.hires := rfl
@[simp] theorem State.withDepot_depot (s : State) (v : Depot) : (s.withDepot v).depot = v := rfl
@[simp] theorem State.withDepot_tune (s : State) (v : Depot) : (s.withDepot v).tune = s.tune := rfl
@[simp] theorem State.withDepot_supply (s : State) (v : Depot) : (s.withDepot v).supply = s.supply := rfl
@[simp] theorem State.withDepot_journal (s : State) (v : Depot) : (s.withDepot v).journal = s.journal := rfl
@[simp] theorem State.withDepot_draws (s : State) (v : Depot) : (s.withDepot v).draws = s.draws := rfl

@[simp] theorem State.withTune_pending (s : State) (v : TuneSet) : (s.withTune v).pending = s.pending := rfl
@[simp] theorem State.withTune_powered (s : State) (v : TuneSet) : (s.withTune v).powered = s.powered := rfl
@[simp] theorem State.withTune_resetLow (s : State) (v : TuneSet) : (s.withTune v).resetLow = s.resetLow := rfl
@[simp] theorem State.withTune_port (s : State) (v : TuneSet) : (s.withTune v).port = s.port := rfl
@[simp] theorem State.withTune_scanner (s : State) (v : TuneSet) : (s.withTune v).scanner = s.scanner := rfl
@[simp] theorem State.withTune_intake (s : State) (v : TuneSet) : (s.withTune v).intake = s.intake := rfl
@[simp] theorem State.withTune_lines (s : State) (v : TuneSet) : (s.withTune v).lines = s.lines := rfl
@[simp] theorem State.withTune_pulse (s : State) (v : TuneSet) : (s.withTune v).pulse = s.pulse := rfl
@[simp] theorem State.withTune_sensor (s : State) (v : TuneSet) : (s.withTune v).sensor = s.sensor := rfl
@[simp] theorem State.withTune_board (s : State) (v : TuneSet) : (s.withTune v).board = s.board := rfl
@[simp] theorem State.withTune_monitor (s : State) (v : TuneSet) : (s.withTune v).monitor = s.monitor := rfl
@[simp] theorem State.withTune_duty (s : State) (v : TuneSet) : (s.withTune v).duty = s.duty := rfl
@[simp] theorem State.withTune_slots (s : State) (v : TuneSet) : (s.withTune v).slots = s.slots := rfl
@[simp] theorem State.withTune_samples (s : State) (v : TuneSet) : (s.withTune v).samples = s.samples := rfl
@[simp] theorem State.withTune_hires (s : State) (v : TuneSet) : (s.withTune v).hires = s.hires := rfl
@[simp] theorem State.withTune_depot (s : State) (v : TuneSet) : (s.withTune v).depot = s.depot := rfl
@[simp] theorem State.withTune_tune (s : State) (v : TuneSet) : (s.withTune v).tune = v := rfl
@[simp] theorem State.withTune_supply (s : State) (v : TuneSet) : (s.withTune v).supply = s.supply := rfl
@[simp] theorem State.withTune_journal (s : State) (v : TuneSet) : (s.withTune v).journal = s.journal := rfl
@[simp] theorem State.withTune_draws (s : State) (v : TuneSet) : (s.withTune v).draws = s.draws := rfl

@[simp] theorem State.withSupply_pending (s : State) (v : Supply) : (s.withSupply v).pending = s.pending := rfl
@[simp] theorem State.withSupply_powered (s : State) (v : Supply) : (s.withSupply v).powered = s.powered := rfl
@[simp] theorem State.withSupply_resetLow (s : State) (v : Supply) : (s.withSupply v).resetLow = s.resetLow := rfl
@[simp] theorem State.withSupply_port (s : State) (v : Supply) : (s.withSupply v).port = s.port := rfl
@[simp] theorem State.withSupply_scanner (s : State) (v : Supply) : (s.withSupply v).scanner = s.scanner := rfl
@[simp] theorem State.withSupply_intake (s : State) (v : Supply) : (s.withSupply v).intake = s.intake := rfl
@[simp] theorem State.withSupply_lines (s : State) (v : Supply) : (s.withSupply v).lines = s.lines := rfl
@[simp] theorem State.withSupply_pulse (s : State) (v : Supply) : (s.withSupply v).pulse = s.pulse := rfl
@[simp] theorem State.withSupply_sensor (s : State) (v : Supply) : (s.withSupply v).sensor = s.sensor := rfl
@[simp] theorem State.withSupply_board (s : State) (v : Supply) : (s.withSupply v).board = s.board := rfl
@[simp] theorem State.withSupply_monitor (s : State) (v : Supply) : (s.withSupply v).monitor = s.monitor := rfl
@[simp] theorem State.withSupply_duty (s : State) (v : Supply) : (s.withSupply v).duty = s.duty := rfl
@[simp] theorem State.withSupply_slots (s : State) (v : Supply) : (s.withSupply v).slots = s.slots := rfl
@[simp] theorem State.withSupply_samples (s : State) (v : Supply) : (s.withSupply v).samples = s.samples := rfl
@[simp] theorem State.withSupply_hires (s : State) (v : Supply) : (s.withSupply v).hires = s.hires := rfl
@[simp] theorem State.withSupply_depot (s : State) (v : Supply) : (s.withSupply v).depot = s.depot := rfl
@[simp] theorem State.withSupply_tune (s : State) (v : Supply) : (s.withSupply v).tune = s.tune := rfl
@[simp] theorem State.withSupply_supply (s : State) (v : Supply) : (s.withSupply v).supply = v := rfl
@[simp] theorem State.withSupply_journal (s : State) (v : Supply) : (s.withSupply v).journal = s.journal := rfl
@[simp] theorem State.withSupply_draws (s : State) (v : Supply) : (s.withSupply v).draws = s.draws := rfl

@[simp] theorem State.withJournal_pending (s : State) (v : Journal) : (s.withJournal v).pending = s.pending := rfl
@[simp] theorem State.withJournal_powered (s : State) (v : Journal) : (s.withJournal v).powered = s.powered := rfl
@[simp] theorem State.withJournal_resetLow (s : State) (v : Journal) : (s.withJournal v).resetLow = s.resetLow := rfl
@[simp] theorem State.withJournal_port (s : State) (v : Journal) : (s.withJournal v).port = s.port := rfl
@[simp] theorem State.withJournal_scanner (s : State) (v : Journal) : (s.withJournal v).scanner = s.scanner := rfl
@[simp] theorem State.withJournal_intake (s : State) (v : Journal) : (s.withJournal v).intake = s.intake := rfl
@[simp] theorem State.withJournal_lines (s : State) (v : Journal) : (s.withJournal v).lines = s.lines := rfl
@[simp] theorem State.withJournal_pulse (s : State) (v : Journal) : (s.withJournal v).pulse = s.pulse := rfl
@[simp] theorem State.withJournal_sensor (s : State) (v : Journal) : (s.withJournal v).sensor = s.sensor := rfl
@[simp] theorem State.withJournal_board (s : State) (v : Journal) : (s.withJournal v).board = s.board := rfl
@[simp] theorem State.withJournal_monitor (s : State) (v : Journal) : (s.withJournal v).monitor = s.monitor := rfl
@[simp] theorem State.withJournal_duty (s : State) (v : Journal) : (s.withJournal v).duty = s.duty := rfl
@[simp] theorem State.withJournal_slots (s : State) (v : Journal) : (s.withJournal v).slots = s.slots := rfl
@[simp] theorem State.withJournal_samples (s : State) (v : Journal) : (s.withJournal v).samples = s.samples := rfl
@[simp] theorem State.withJournal_hires (s : State) (v : Journal) : (s.withJournal v).hires = s.hires := rfl
@[simp] theorem State.withJournal_depot (s : State) (v : Journal) : (s.withJournal v).depot = s.depot := rfl
@[simp] theorem State.withJournal_tune (s : State) (v : Journal) : (s.withJournal v).tune = s.tune := rfl
@[simp] theorem State.withJournal_supply (s : State) (v : Journal) : (s.withJournal v).supply = s.supply := rfl
@[simp] theorem State.withJournal_journal (s : State) (v : Journal) : (s.withJournal v).journal = v := rfl
@[simp] theorem State.withJournal_draws (s : State) (v : Journal) : (s.withJournal v).draws = s.draws := rfl

@[simp] theorem State.withDraws_pending (s : State) (v : Nat) : (s.withDraws v).pending = s.pending := rfl
@[simp] theorem State.withDraws_powered (s : State) (v : Nat) : (s.withDraws v).powered = s.powered := rfl
@[simp] theorem State.withDraws_resetLow (s : State) (v : Nat) : (s.withDraws v).resetLow = s.resetLow := rfl
@[simp] theorem State.withDraws_port (s : State) (v : Nat) : (s.withDraws v).port = s.port := rfl
@[simp] theorem State.withDraws_scanner (s : State) (v : Nat) : (s.withDraws v).scanner = s.scanner := rfl
@[simp] theorem State.withDraws_intake (s : State) (v : Nat) : (s.withDraws v).intake = s.intake := rfl
@[simp] theorem State.withDraws_lines (s : State) (v : Nat) : (s.withDraws v).lines = s.lines := rfl
@[simp] theorem State.withDraws_pulse (s : State) (v : Nat) : (s.withDraws v).pulse = s.pulse := rfl
@[simp] theorem State.withDraws_sensor (s : State) (v : Nat) : (s.withDraws v).sensor = s.sensor := rfl
@[simp] theorem State.withDraws_board (s : State) (v : Nat) : (s.withDraws v).board = s.board := rfl
@[simp] theorem State.withDraws_monitor (s : State) (v : Nat) : (s.withDraws v).monitor = s.monitor := rfl
@[simp] theorem State.withDraws_duty (s : State) (v : Nat) : (s.withDraws v).duty = s.duty := rfl
@[simp] theorem State.withDraws_slots (s : State) (v : Nat) : (s.withDraws v).slots = s.slots := rfl
@[simp] theorem State.withDraws_samples (s : State) (v : Nat) : (s.withDraws v).samples = s.samples := rfl
@[simp] theorem State.withDraws_hires (s : State) (v : Nat) : (s.withDraws v).hires = s.hires := rfl
@[simp] theorem State.withDraws_depot (s : State) (v : Nat) : (s.withDraws v).depot = s.depot := rfl
@[simp] theorem State.withDraws_tune (s : State) (v : Nat) : (s.withDraws v).tune = s.tune := rfl
@[simp] theorem State.withDraws_supply (s : State) (v : Nat) : (s.withDraws v).supply = s.supply := rfl
@[simp] theorem State.withDraws_journal (s : State) (v : Nat) : (s.withDraws v).journal = s.journal := rfl
@[simp] theorem State.withDraws_draws (s : State) (v : Nat) : (s.withDraws v).draws = v := rfl

end Sys2Proof.Machine
end

