-- ==== Sys2Proof/Laws/Memory.lean ====
section
/-! SUPPORT. What the operations on exchange memory do: each keeps the canonical form, a byte written reads back, and every
other byte reads as before. -/

namespace Sys2Proof.Machine

/-- Addresses strictly rising: the part of the canonical form that reading needs. -/
abbrev Memory.rising (m : Memory) : Prop := m.Pairwise (fun c d => c.1 < d.1)

theorem memRead_absent : ∀ (m : Memory) (a : Nat), (∀ c ∈ m, c.1 ≠ a) → memRead m a = 0
  | [], _, _ => rfl
  | (k, v) :: rest, a, h => by
    have hk : a ≠ k := fun e => h (k, v) (by simp) e.symm
    simp only [memRead, hk, if_false]
    split
    · rfl
    · exact memRead_absent rest a (fun c hc => h c (List.mem_cons_of_mem _ hc))

theorem memWrite_mem (m : Memory) (a : Nat) (b : Byte) :
    ∀ c ∈ memWrite m a b, c ∈ m ∨ (c = (a, b) ∧ b ≠ 0) := by
  induction m with
  | nil => intro c hc; simp only [memWrite] at hc; split at hc <;> simp_all
  | cons p rest ih =>
    obtain ⟨k, v⟩ := p
    intro c hc
    simp only [memWrite] at hc
    split at hc
    · split at hc
      · exact .inl hc
      · rcases List.mem_cons.1 hc with rfl | h
        · right; constructor <;> simp_all
        · exact .inl h
    · split at hc
      · split at hc
        · exact .inl (List.mem_cons_of_mem _ hc)
        · rcases List.mem_cons.1 hc with rfl | h
          · right; constructor <;> simp_all
          · exact .inl (List.mem_cons_of_mem _ h)
      · rcases List.mem_cons.1 hc with rfl | h
        · exact .inl (by simp)
        · rcases ih c h with h | h
          · exact .inl (List.mem_cons_of_mem _ h)
          · exact .inr h

theorem memWrite_rising (m : Memory) (a : Nat) (b : Byte) (h : m.rising) : (memWrite m a b).rising := by
  induction m with
  | nil => simp only [memWrite]; split <;> simp [Memory.rising]
  | cons p rest ih =>
    obtain ⟨k, v⟩ := p
    have hp := List.pairwise_cons.1 h
    simp only [memWrite]
    split
    · split
      · exact h
      · refine List.pairwise_cons.2 ⟨?_, h⟩
        intro c hc
        rcases List.mem_cons.1 hc with rfl | hc
        · assumption
        · exact Nat.lt_trans ‹a < k› (hp.1 c hc)
    · split
      · split
        · exact hp.2
        · rename_i hka _
          subst hka
          exact List.pairwise_cons.2 ⟨hp.1, hp.2⟩
      · refine List.pairwise_cons.2 ⟨?_, ih hp.2⟩
        intro c hc
        rcases memWrite_mem rest a b c hc with hc | ⟨rfl, _⟩
        · exact hp.1 c hc
        · show k < a; omega

theorem memWrite_wf (m : Memory) (a : Nat) (b : Byte) (h : m.wf) (ha : a < Config.memorySize) :
    Memory.wf (memWrite m a b) := by
  refine ⟨memWrite_rising m a b h.1, ?_⟩
  intro c hc
  rcases memWrite_mem m a b c hc with hc | ⟨rfl, hb⟩
  · exact h.2 c hc
  · exact ⟨ha, hb⟩

theorem memPut_wf (m : Memory) (a : Nat) (b : Byte) (h : m.wf) : Memory.wf (memPut m a b) :=
  memWrite_wf m _ b h (Nat.mod_lt _ (by decide))

theorem memPutAll_wf (bytes : List Byte) : ∀ (m : Memory) (a : Nat), m.wf → Memory.wf (memPutAll m a bytes) := by
  induction bytes with
  | nil => intro m a h; exact h
  | cons b rest ih => intro m a h; exact ih _ _ (memPut_wf m a b h)

theorem memZero_wf (m : Memory) (lo hi : Nat) (h : m.wf) : Memory.wf (memZero m lo hi) :=
  ⟨List.Pairwise.filter _ h.1, fun c hc => h.2 c (List.mem_of_mem_filter hc)⟩

/-! ### Reading back -/

theorem memRead_cons_rising {k : Nat} {v : Byte} {rest : Memory} (h : Memory.rising ((k, v) :: rest)) (c : Nat) :
    memRead ((k, v) :: rest) c = if c = k then v else memRead rest c := by
  have hp := List.pairwise_cons.1 h
  simp only [memRead]
  split
  · rfl
  · split
    · rw [memRead_absent]
      intro d hd
      have := hp.1 d hd
      simp only at this
      omega
    · rfl

theorem memRead_memWrite (m : Memory) (h : m.rising) (a c : Nat) (b : Byte) :
    memRead (memWrite m a b) c = if c = a then b else memRead m c := by
  induction m with
  | nil =>
    simp only [memWrite]
    split
    · rename_i hb; subst hb; simp [memRead]
    · simp [memRead]
  | cons p rest ih =>
    obtain ⟨k, v⟩ := p
    have hp := List.pairwise_cons.1 h
    have hrest : ∀ d ∈ rest, k < d.1 := hp.1
    rw [memRead_cons_rising h]
    simp only [memWrite]
    split
    · rename_i hak
      split
      · rename_i hb
        subst hb
        rw [memRead_cons_rising h]
        by_cases hca : c = a
        · subst hca
          rw [if_neg (by omega), if_pos rfl, memRead_absent]
          intro d hd
          have := hrest d hd
          omega
        · rw [if_neg hca]
      · have hr : Memory.rising ((a, b) :: (k, v) :: rest) := by
          refine List.pairwise_cons.2 ⟨?_, h⟩
          intro d hd
          rcases List.mem_cons.1 hd with rfl | hd
          · exact hak
          · exact Nat.lt_trans hak (hrest d hd)
        rw [memRead_cons_rising hr, memRead_cons_rising h]
    · split
      · rename_i hak
        subst hak
        split
        · rename_i hb
          subst hb
          split
          · rename_i hca
            subst hca
            rw [memRead_absent]
            intro d hd
            have := hrest d hd
            omega
          · rfl
        · have hr : Memory.rising ((a, b) :: rest) := List.pairwise_cons.2 ⟨hp.1, hp.2⟩
          rw [memRead_cons_rising hr]
          split <;> rfl
      · rename_i h1 h2
        have hr : Memory.rising ((k, v) :: memWrite rest a b) := by
          have := memWrite_rising ((k, v) :: rest) a b h
          simpa only [memWrite, if_neg h1, if_neg h2] using this
        rw [memRead_cons_rising hr, ih hp.2]
        by_cases hck : c = k
        · subst hck
          rw [if_pos rfl, if_pos rfl, if_neg (Ne.symm h2)]
        · rw [if_neg hck, if_neg hck]

theorem memZero_rising (m : Memory) (lo hi : Nat) (h : m.rising) : (memZero m lo hi).rising :=
  List.Pairwise.filter _ h

theorem memRead_memZero (m : Memory) (h : m.rising) (lo hi c : Nat) :
    memRead (memZero m lo hi) c = if lo ≤ c ∧ c < hi then 0 else memRead m c := by
  induction m with
  | nil => simp [memZero, memRead]
  | cons p rest ih =>
    obtain ⟨k, v⟩ := p
    have hp := List.pairwise_cons.1 h
    have ih := ih hp.2
    rw [memRead_cons_rising h]
    have hz : memZero ((k, v) :: rest) lo hi
        = if k < lo ∨ hi ≤ k then (k, v) :: memZero rest lo hi else memZero rest lo hi := by
      simp only [memZero, List.filter_cons]
      by_cases hk : k < lo ∨ hi ≤ k <;> simp [hk]
    rw [hz]
    by_cases hk : k < lo ∨ hi ≤ k
    · rw [if_pos hk]
      have hr : Memory.rising ((k, v) :: memZero rest lo hi) :=
        List.pairwise_cons.2 ⟨fun d hd => hp.1 d (List.mem_of_mem_filter hd), memZero_rising rest lo hi hp.2⟩
      rw [memRead_cons_rising hr, ih]
      by_cases hck : c = k
      · subst hck
        rw [if_pos rfl, if_pos rfl, if_neg (by omega)]
      · rw [if_neg hck, if_neg hck]
    · rw [if_neg hk, ih]
      by_cases hck : c = k
      · subst hck
        rw [if_pos (by omega : lo ≤ c ∧ c < hi), if_pos (by omega : lo ≤ c ∧ c < hi)]
      · rw [if_neg hck]

theorem memPut_rising (m : Memory) (a : Nat) (b : Byte) (h : m.rising) : (memPut m a b).rising :=
  memWrite_rising m _ b h

theorem memGet_memPut (m : Memory) (h : m.rising) (a c : Nat) (b : Byte) :
    memGet (memPut m a b) c = if c % Config.memorySize = a % Config.memorySize then b else memGet m c :=
  memRead_memWrite m h _ _ b

theorem memPutAll_rising (bytes : List Byte) :
    ∀ (m : Memory) (a : Nat), m.rising → (memPutAll m a bytes).rising := by
  induction bytes with
  | nil => intro m a h; exact h
  | cons b rest ih => intro m a h; exact ih _ _ (memPut_rising m a b h)

/-- A byte outside the bytes written reads as before. -/
theorem memGet_memPutAll_outside (bytes : List Byte) : ∀ (m : Memory) (a c : Nat), m.rising →
    (∀ i < bytes.length, c % Config.memorySize ≠ (a + i) % Config.memorySize) →
    memGet (memPutAll m a bytes) c = memGet m c := by
  induction bytes with
  | nil => intro m a c _ _; rfl
  | cons b rest ih =>
    intro m a c h hc
    simp only [memPutAll]
    rw [ih _ (a + 1) c (memPut_rising m a b h), memGet_memPut m h, if_neg]
    · have := hc 0 (by simp)
      simpa using this
    · intro i hi
      have := hc (i + 1) (by simpa using hi)
      rwa [show a + (i + 1) = a + 1 + i by omega] at this

/-- A byte written reads back, while the bytes written do not run over themselves. -/
theorem memGet_memPutAll_inside (bytes : List Byte) : ∀ (m : Memory) (a i : Nat), m.rising →
    (hi : i < bytes.length) → bytes.length ≤ Config.memorySize →
    memGet (memPutAll m a bytes) (a + i) = bytes[i] := by
  induction bytes with
  | nil => intro m a i _ hi; simp at hi
  | cons b rest ih =>
    intro m a i h hi hl
    simp only [memPutAll]
    cases i with
    | zero =>
      rw [memGet_memPutAll_outside rest _ _ _ (memPut_rising m a b h), memGet_memPut m h]
      · simp
      · intro j hj
        simp only [List.length_cons, Config.memorySize] at hl
        simp only [Nat.add_zero, Config.memorySize]
        omega
    | succ i =>
      rw [show a + (i + 1) = a + 1 + i by omega, ih _ (a + 1) i (memPut_rising m a b h) (by simpa using hi)
        (by simp only [List.length_cons] at hl; omega)]
      simp

/-! ### At the state -/

theorem State.store_port (s : State) (a : Nat) (bytes : List Byte) :
    (s.store a bytes).port = { s.port with mem := memPutAll s.port.mem a bytes } := rfl

theorem State.store_mem_wf (s : State) (a : Nat) (bytes : List Byte) (h : s.port.mem.wf) :
    (s.store a bytes).port.mem.wf := memPutAll_wf bytes _ a h

theorem State.store_byteAt_outside (s : State) (a c : Nat) (bytes : List Byte) (h : s.port.mem.rising)
    (hc : ∀ i < bytes.length, c % Config.memorySize ≠ (a + i) % Config.memorySize) :
    (s.store a bytes).byteAt c = s.byteAt c := memGet_memPutAll_outside bytes _ a c h hc

theorem State.store_byteAt_inside (s : State) (a i : Nat) (bytes : List Byte) (h : s.port.mem.rising)
    (hi : i < bytes.length) (hl : bytes.length ≤ Config.memorySize) : (s.store a bytes).byteAt (a + i) = bytes[i] :=
  memGet_memPutAll_inside bytes _ a i h hi hl

theorem reset_mem_wf : State.reset.port.mem.wf := by decide

end Sys2Proof.Machine
end

