-- ==== Sys2Proof/Laws/Blocks.lean ====
section
/-! SUPPORT. What each operation shared by the blocks can do, said once: notices, the control block, increments, the journal's
triggers, the scanner's and the monitor's updates, the judgement of a window, the derived gear. Later proofs cite these and unfold none
of them. -/

namespace Sys2Proof.Machine

/-! ### Notices and the control block -/

/-- A notice set at a live port is one bit of NOTICE, and nothing else. -/
theorem State.setNotice_live (s : State) (n : Notice) (h : s.resetLow = false) :
    s.setNotice n = { s with port := { s.port with notice := s.port.notice ||| n.mask } } := by
  simp [State.setNotice, h, State.withPort]

/-- While RESETn is low no notice is set. -/
theorem State.setNotice_reset (s : State) (n : Notice) (h : s.resetLow = true) : s.setNotice n = s := by
  simp [State.setNotice, h]

/-- Whatever RESETn does, setting a notice moves NOTICE alone. -/
theorem State.setNotice_frame (s : State) (n : Notice) :
    s.setNotice n = { s with port := { s.port with notice := (s.setNotice n).port.notice } } := by
  unfold State.setNotice
  split <;> simp [State.withPort]

/-- A field published at a live port is stored. -/
theorem State.publish_live (s : State) (a : Nat) (bytes : List Byte) (h : s.resetLow = false) :
    s.publish a bytes = s.store a bytes := by
  simp [State.publish, h]

/-- While RESETn is low nothing is published. -/
theorem State.publish_reset (s : State) (a : Nat) (bytes : List Byte) (h : s.resetLow = true) : s.publish a bytes = s := by
  simp [State.publish, h]

/-- Publishing moves exchange memory alone. -/
theorem State.publish_frame (s : State) (a : Nat) (bytes : List Byte) :
    s.publish a bytes = { s with port := { s.port with mem := (s.publish a bytes).port.mem } } := by
  unfold State.publish
  split <;> simp [State.store, State.withPort]

/-- Publishing keeps the canonical form. -/
theorem State.publish_wf (s : State) (a : Nat) (bytes : List Byte) (h : s.port.mem.wf) :
    (s.publish a bytes).port.mem.wf := by
  unfold State.publish
  split
  · exact h
  · exact State.store_mem_wf s a bytes h

/-- Bytes stored inside the memory are the only ones that change. -/
theorem State.store_kept (s : State) (a : Nat) (bytes : List Byte) (changed : Nat → Prop) (hm : s.port.mem.wf)
    (hb : a + bytes.length ≤ Config.memorySize) (hc : ∀ c, within a bytes.length c → changed c) :
    bytesKept s (s.store a bytes) changed := by
  intro c hlt hn
  apply State.store_byteAt_outside _ _ _ _ hm.1
  intro i hi he
  rw [Nat.mod_eq_of_lt hlt, Nat.mod_eq_of_lt (by omega)] at he
  exact hn (hc c ⟨by omega, by omega⟩)

/-- Publishing changes only the bytes of its field. -/
theorem State.publish_kept (s : State) (a : Nat) (bytes : List Byte) (changed : Nat → Prop) (hm : s.port.mem.wf)
    (hb : a + bytes.length ≤ Config.memorySize) (hc : ∀ c, within a bytes.length c → changed c) :
    bytesKept s (s.publish a bytes) changed := by
  unfold State.publish
  split
  · intro c _ _; rfl
  · exact State.store_kept s a bytes changed hm hb hc

/-- What is kept by two steps is kept by both in turn. -/
theorem bytesKept_trans {s t u : State} {changed : Nat → Prop} (h : bytesKept s t changed) (g : bytesKept t u changed) :
    bytesKept s u changed := fun a ha hn => (g a ha hn).trans (h a ha hn)

/-! ### Increments -/

/-- An increment moves the slots and the register alone. -/
theorem State.land_frame (s : State) (inc : Increment) :
    s.land inc = { s with
      slots := (s.land inc).slots, hires := s.hires.mapCounts (fun c => inc.onCounts c) } := by
  simp only [State.land, State.landInTable]
  split <;> simp [State.modifyBody, State.withSlots, State.withHires]

/-- An increment lands in the FITTED slot of its class at position 1, and in no other (R7). -/
theorem State.land_slots (s : State) (inc : Increment) : slotGains s (s.land inc) inc.cls inc.onBody := by
  intro i
  simp only [State.land, State.landInTable]
  cases h : findSlot s.slots inc.cls 1 with
  | none => simp [State.slotAt, State.withHires]
  | some j =>
    simp only [State.modifyBody, State.slotAt, State.withSlots, State.withHires, List.getElem?_modify]
    by_cases e : j = i
    · subst e
      simp only [if_true]
      cases s.slots[j]? with
      | none => rfl
      | some o => cases o <;> simp
    · simp [e]

/-- An increment lands in the counts of the current record (R131). -/
theorem State.land_register (s : State) (inc : Increment) : registerGains s (s.land inc) (fun c => inc.onCounts c) := by
  rw [State.land_frame]
  constructor
  · intro h e; simp [HireRegister.mapCounts, e]
  · intro e; simp [HireRegister.mapCounts, e]

/-- An increment at the register alone (R131). -/
theorem State.land_hires (s : State) (inc : Increment) : (s.land inc).hires = s.hires.mapCounts (fun c => inc.onCounts c) := by
  rw [State.land_frame]

/-- What an increment does to the slots depends on the slots alone. -/
theorem State.land_slots_congr {s t : State} (inc : Increment) (h : t.slots = s.slots) : (t.land inc).slots = (s.land inc).slots := by
  simp only [State.land, State.landInTable, State.withHires, h]
  cases findSlot s.slots inc.cls 1 <;> simp [State.modifyBody, State.withSlots, h]

/-- An increment keeps the class of a body. -/
theorem Increment.onBody_cls (inc : Increment) (b : Body) : (inc.onBody b).cls = b.cls := by
  cases inc <;> cases b <;> rfl

/-- A change of one slot's body that keeps its class leaves every class and position where it was. -/
theorem State.modifyBody_findSlot (s : State) (i : Nat) (f : Body → Body) (hf : ∀ b, (f b).cls = b.cls)
    (cls : ComponentClass) (position : Nat) :
    findSlot (s.modifyBody i f).slots cls position = findSlot s.slots cls position := by
  have h : ((s.modifyBody i f).slots.map (holds cls position)) = s.slots.map (holds cls position) := by
    apply List.ext_getElem?
    intro j
    simp only [State.modifyBody, State.withSlots, List.getElem?_map, List.getElem?_modify]
    by_cases e : i = j
    · subst e
      rcases s.slots[i]? with _ | _ | c
      · rfl
      · simp
      · simp only [if_true, Option.map, holds, Component.cls, hf, Functor.map]
        exact congrArg some (decide_eq_decide.2 Iff.rfl)
    · simp [e]
  have g : ∀ l : List (Option Component), findSlot l cls position = (l.map (holds cls position)).findIdx? id := by
    intro l
    simp [findSlot, List.findIdx?_map]
  rw [g, g, h]

/-- An increment leaves every class and position where it was. -/
theorem State.land_findSlot (s : State) (inc : Increment) (cls : ComponentClass) (position : Nat) :
    findSlot (s.land inc).slots cls position = findSlot s.slots cls position := by
  simp only [State.land, State.landInTable, State.withHires]
  cases findSlot s.slots inc.cls 1 with
  | none => rfl
  | some j => exact s.modifyBody_findSlot j _ inc.onBody_cls cls position

/-- What a slot gains in two steps it gains in turn, when its class has stayed in place. -/
theorem slotGains_trans {s t u : State} {cls : ComponentClass} {f g : Body → Body} (h : slotGains s t cls f)
    (h' : slotGains t u cls g) (e : findSlot t.slots cls 1 = findSlot s.slots cls 1) :
    slotGains s u cls (fun b => g (f b)) := by
  intro i
  rw [h' i, h i, e]
  cases s.slotAt i with
  | none => rfl
  | some c => by_cases k : findSlot s.slots cls 1 = some i <;> simp [k]

/-- What the register gains in two steps it gains in turn. -/
theorem registerGains_trans {s t u : State} {f g : Counts → Counts} (h : registerGains s t f) (h' : registerGains t u g) :
    registerGains s u (fun c => g (f c)) := by
  constructor
  · intro r e; rw [h'.1 _ (by rw [h.1 r e]), h.1 r e]
  · intro e; rw [h'.2 (by rw [h.2 e]; exact e), h.2 e]

/-- A damage increment moves the slots and the register alone. -/
theorem State.landDamage_frame (s : State) (slot amount : Nat) :
    s.landDamage slot amount = { s with
      slots := (s.landDamage slot amount).slots, hires := s.hires.mapEntries (addDelta slot amount) } := by
  simp [State.landDamage, State.modifyBody, State.withSlots, State.withHires]

/-- Several of them do too. -/
theorem State.landDamages_frame (amounts : List Nat) : ∀ (s : State) (slot : Nat),
    s.landDamages slot amounts = { s with
      slots := (s.landDamages slot amounts).slots, hires := (s.landDamages slot amounts).hires } := by
  induction amounts with
  | nil => intro s slot; rfl
  | cons n rest ih =>
    intro s slot
    have h : s.landDamages slot (n :: rest) = (s.landDamage slot n).landDamages slot rest := rfl
    rw [h, ih, State.landDamage_frame]

/-- Settling a residue moves the slots, the register and NOTICE alone. -/
theorem State.settle_frame (s : State) (slot : Nat) (g : Gated) :
    s.settle slot g = { s with
      slots := (s.settle slot g).slots, hires := (s.settle slot g).hires
      port := { s.port with notice := (s.settle slot g).port.notice } } := by
  unfold State.settle
  rw [State.landDamages_frame]
  split
  · rw [State.setNotice_frame]; simp [State.modifyBody, State.withSlots]
  · simp [State.modifyBody, State.withSlots]

/-- A sample taken at its slot moves the slots, the register and NOTICE alone (R121). -/
theorem State.takeSample_frame (s : State) (x : SlotSample) :
    s.takeSample x = { s with
      slots := (s.takeSample x).slots, hires := (s.takeSample x).hires
      port := { s.port with notice := (s.takeSample x).port.notice } } := by
  unfold State.takeSample
  split
  · split
    · simp only
      rw [State.settle_frame]
      split <;> simp [State.modifyBody, State.withSlots]
    · rfl
  · rfl

/-- Several of them do too. -/
theorem State.takeSamples_frame (samples : List SlotSample) : ∀ s : State,
    samples.foldl State.takeSample s = { s with
      slots := (samples.foldl State.takeSample s).slots, hires := (samples.foldl State.takeSample s).hires
      port := { s.port with notice := (samples.foldl State.takeSample s).port.notice } } := by
  induction samples with
  | nil => intro s; rfl
  | cons x rest ih => intro s; rw [List.foldl_cons, ih, State.takeSample_frame]

/-- The waiting samples, the slots, the register and NOTICE alone move when waiting samples are taken. -/
theorem State.takeWaiting_frame (s : State) (p : SlotSample → Bool) :
    s.takeWaiting p = { s with
      samples := (s.takeWaiting p).samples, slots := (s.takeWaiting p).slots, hires := (s.takeWaiting p).hires
      port := { s.port with notice := (s.takeWaiting p).port.notice } } := by
  unfold State.takeWaiting
  split
  · rw [State.takeSamples_frame]
    rfl
  · rfl

/-- In RUN the waiting samples of a test are taken and no other. -/
theorem State.takeWaiting_samples (s : State) (p : SlotSample → Bool) (h : s.supply.power = .run) :
    (s.takeWaiting p).samples = s.samples.filter (fun x => !p x) := by
  rw [State.takeWaiting, if_pos h, State.takeSamples_frame]
  rfl

/-- Outside RUN none is taken (R6). -/
theorem State.takeWaiting_rest (s : State) (p : SlotSample → Bool) (h : s.supply.power ≠ .run) : s.takeWaiting p = s := if_neg h

/-- With no sample waiting for which the test holds nothing is taken. -/
theorem State.takeWaiting_none (s : State) (p : SlotSample → Bool) (h : ∀ x ∈ s.samples, p x = false) : s.takeWaiting p = s := by
  have e : s.samples.filter p = [] := List.filter_eq_nil_iff.2 (fun x hx => by simp [h x hx])
  have k : s.samples.filter (fun x => !p x) = s.samples := List.filter_eq_self.2 (fun x hx => by simp [h x hx])
  unfold State.takeWaiting
  rw [e, k]
  exact ite_self s

/-- In a state that keeps `samplesLaw` no sample waits once all that may be are taken, and the power state stands. -/
theorem State.takeAllWaiting_spec (s : State) (h : s.samplesLaw) :
    s.takeAllWaiting.samples = [] ∧ s.takeAllWaiting.supply = s.supply := by
  constructor
  · by_cases hp : s.supply.power = .run
    · rw [State.takeAllWaiting, State.takeWaiting_samples s _ hp]
      simp
    · rw [State.takeAllWaiting, State.takeWaiting_rest s _ hp, h hp]
  · rw [State.takeAllWaiting, State.takeWaiting_frame]

/-- The readings of the run threshold, as the statements say them (R73). -/
theorem State.atRun_iff (s : State) : s.atRun = true ↔ s.speedAtRun := by
  simp [State.atRun, QRecord.known]

/-! ### The quantity mirror -/

/-- Mirrors rewritten move exchange memory alone (R35). -/
theorem State.publishRecords_frame (changed : List Quantity) : ∀ s : State,
    s.publishRecords changed = { s with port := { s.port with mem := (s.publishRecords changed).port.mem } } := by
  induction changed with
  | nil => intro s; rfl
  | cons q rest ih =>
    intro s
    have h : s.publishRecords (q :: rest) = (s.publishRecord q).publishRecords rest := rfl
    rw [h, ih, State.publishRecord, State.publish_frame]

/-! ### The journal -/

/-- A checkpoint that starts, or is given up for want of a sequence, moves the journal and NOTICE alone. -/
theorem State.startCheckpoint_frame (s : State) :
    s.startCheckpoint = { s with
      journal := s.startCheckpoint.journal, port := { s.port with notice := s.startCheckpoint.port.notice } } := by
  unfold State.startCheckpoint
  split
  · simp [State.withJournal]
  · unfold State.abandonWithRetry
    rw [State.setNotice_frame]
    simp [State.withJournal]

/-- A trigger moves the journal and NOTICE alone. -/
theorem State.trigger_frame (s : State) :
    s.trigger = { s with journal := s.trigger.journal, port := { s.port with notice := s.trigger.port.notice } } := by
  unfold State.trigger
  split
  · exact State.startCheckpoint_frame s
  · simp [State.withJournal]

/-- With the journal free a trigger starts a checkpoint of the state as it stands, and sets no notice (R169, R170). -/
theorem State.trigger_free (s : State) (h : s.journalFree) :
    s.trigger = { s with journal := s.trigger.journal } ∧ s.trigger.journal.startedFrom s
      ∧ s.trigger.journal.waiting = s.journal.waiting.map (fun _ => true) := by
  obtain ⟨h1, h2, h3⟩ := h
  have e : s.trigger = s.startCheckpoint := by simp [State.trigger, h1, h2]
  rw [e]
  refine ⟨?_, ?_, ?_⟩ <;>
    simp [State.startCheckpoint, h3, State.withJournal, Journal.beginPage, Journal.startedFrom, Journal.target]

/-- While a page is written, or in HOLD, a trigger leaves another checkpoint pending (R169). -/
theorem State.trigger_busy (s : State) (h : s.journal.writing ≠ none ∨ s.supply.power = .hold) :
    s.trigger = { s with journal := { s.journal with another := true } } := by
  have : ¬ (s.journal.writing.isNone = true ∧ s.supply.power ≠ .hold) := by
    rintro ⟨h1, h2⟩
    rcases h with h | h
    · exact h (Option.isNone_iff_eq_none.1 h1)
    · exact h2 h
  rw [State.trigger, if_neg this]
  rfl

/-! ### The scanner and the monitor -/

/-- A change of the scanner moves the scanner and exchange memory alone. -/
theorem State.setScanner_frame (s : State) (v : Scanner) :
    s.setScanner v = { s with scanner := v, port := { s.port with mem := (s.setScanner v).port.mem } } := by
  unfold State.setScanner
  split
  · simp [State.withScanner]
  · unfold State.publishScanner
    rw [State.publish_frame]
    simp [State.withScanner]

/-- The return of a slip moves the scanner, exchange memory and NOTICE alone (R148). -/
theorem State.giveBack_frame (s : State) (p : Slip) (r : Result) :
    s.giveBack p r = { s with
      scanner := { s.scanner with held := none, cursor := s.nextCursor p.ringEnd }
      port := { s.port with mem := (s.giveBack p r).port.mem, notice := (s.giveBack p r).port.notice } } := by
  have hw : ∀ t : State, t.writeReturn r = { t with port := { t.port with mem := (t.writeReturn r).port.mem } } := by
    intro t; simp [State.writeReturn, State.store, State.withPort]
  have hc : s.clearTail p r = { s with port := { s.port with mem := (s.clearTail p r).port.mem } } := by
    unfold State.clearTail; split <;> simp [State.withPort]
  unfold State.giveBack
  simp only
  rw [State.setScanner_frame]
  split
  · rw [State.setNotice_frame, hw, hc]
  · rw [hw, hc]

/-- A slip accepted with a wait moves the scanner, the journal and the port's memory and notices alone (R150). -/
theorem State.waitSave_frame (s : State) (h : Held) :
    s.waitSave h = { s with
      scanner := { s.scanner with state := .waitSave, held := some h }, journal := (s.waitSave h).journal
      port := { s.port with mem := (s.waitSave h).port.mem, notice := (s.waitSave h).port.notice } } := by
  unfold State.waitSave
  simp only
  rw [State.trigger_frame, State.setScanner_frame]
  simp [State.withJournal]

/-- The start state is set and shown; nothing else moves. -/
theorem State.setStart_frame (s : State) (st : StartState) :
    s.setStart st = { s with
      monitor := { s.monitor with state := st }, port := { s.port with mem := (s.setStart st).port.mem } } := by
  unfold State.setStart State.publishStart
  rw [State.publish_frame]
  simp [State.withMonitor]

/-! ### UNFIT, the judgement of a window, the derived gear -/

/-- The FITTED slots for which a test holds. -/
theorem State.mem_fittedWhere (s : State) (f : Component → Bool) (e : Nat × Component) :
    e ∈ s.fittedWhere f ↔ s.slotAt e.1 = some e.2 ∧ f e.2 = true := by
  unfold State.fittedWhere State.slotAt
  rw [List.mem_filterMap]
  constructor
  · rintro ⟨⟨o, i⟩, hm, h⟩
    rw [List.mem_zipIdx_iff_getElem?] at hm
    simp only at hm h
    cases o with
    | none => simp at h
    | some c =>
      simp only at h
      split at h
      · cases h; simp_all
      · simp at h
  · rintro ⟨h1, h2⟩
    refine ⟨(some e.2, e.1), ?_, by simp [h2]⟩
    rw [List.mem_zipIdx_iff_getElem?]
    simp only
    cases h : s.slots[e.1]? with
    | none => simp [h] at h1
    | some o => simp [h] at h1; simp [h1]

/-- A hand-on to the cycle counter moves the waiting samples alone (R110). -/
theorem State.cycleHandOn_frame (s : State) : s.cycleHandOn = { s with samples := s.cycleHandOn.samples } := by
  unfold State.cycleHandOn
  split <;> simp [State.withSamples]

/-- The next window of a channel moves that channel alone (R42). -/
theorem State.nextWindow_frame (s : State) (ch : Channel) :
    s.nextWindow ch = { s with
      pulse := s.pulse.set ch { s.pulse.get ch with edges := 0, mark := decide (s.sensor.state ≠ .on) } } := rfl

/-- Before a TUNE the waiting samples, the slots, the register and NOTICE alone may move. -/
theorem State.settleForTune_frame (s : State) (sec : TuneSection) :
    s.settleForTune sec = { s with
      samples := (s.settleForTune sec).samples, slots := (s.settleForTune sec).slots, hires := (s.settleForTune sec).hires
      port := { s.port with notice := (s.settleForTune sec).port.notice } } := by
  unfold State.settleForTune
  cases sec <;> first | rfl | exact State.takeWaiting_frame s _

/-- Before an UNFIT too. -/
theorem State.settleForUnfit_frame (s : State) (p : Slip) :
    s.settleForUnfit p = { s with
      samples := (s.settleForUnfit p).samples, slots := (s.settleForUnfit p).slots, hires := (s.settleForUnfit p).hires
      port := { s.port with notice := (s.settleForUnfit p).port.notice } } := by
  unfold State.settleForUnfit
  split
  · exact State.takeWaiting_frame s _
  · rfl

/-- A refused UNFIT changes no state: the samples that wait for the slot go on waiting (R16). -/
theorem unfitWork_refused (p : Slip) (s : State) (r : Result) (h : checkUnfit (s.settleForUnfit p) p = .error r) :
    unfitWork p s = (.back r, s) := by
  unfold unfitWork
  rw [h]

/-- An accepted UNFIT is carried out once no sample waits for its slot (R17, notes/assumptions/7.md). -/
theorem unfitWork_accepted (p : Slip) (s : State) (slot : Nat) (c : Component)
    (h : checkUnfit (s.settleForUnfit p) p = .ok (slot, c)) : unfitWork p s = (s.settleForUnfit p).unfit p slot c := by
  unfold unfitWork
  rw [h]

/-- With no shadow at the tie a shadow's freshness draws nothing. -/
theorem State.shadowFresh_untied (s : State) (shadow : Option Shadow) (h : ∀ x, shadow = some x → x.quanta ≠ 5) :
    (s.shadowFresh shadow).2 = s ∧ ((s.shadowFresh shadow).1 = true ↔ ∃ x, shadow = some x ∧ x.quanta < 5) := by
  unfold State.shadowFresh
  cases shadow with
  | none => simp
  | some x =>
    have := h x rfl
    by_cases hq : x.quanta < 5 <;> simp [hq, this]

/-- A window is judged as R45 says, and with no shadow at the tie the judgement draws nothing. -/
theorem State.implausible_iff (s : State) (ch : Channel) (h : s.board.untied) :
    (s.implausible ch).2 = s ∧ ((s.implausible ch).1 = true ↔ s.windowBad ch) := by
  have he := s.shadowFresh_untied s.board.shadowEngine (fun x e => h x (.inl e))
  have ho := s.shadowFresh_untied s.board.shadowOutput (fun x e => h x (.inr (.inl e)))
  have hg := s.shadowFresh_untied s.board.shadowGear (fun x e => h x (.inr (.inr e)))
  unfold State.windowBad
  by_cases ht : s.tune.pulse.teeth ch = 0
  · simp [State.implausible, ht]
  by_cases hb : 2000 < (s.pulse.get ch).edges ∨ (s.pulse.get ch).mark = true
  · simp [State.implausible, ht, hb]; tauto
  by_cases h0 : (s.pulse.get ch).edges = 0
  · have key : (s.zeroCountTest ch).2 = s ∧ ((s.zeroCountTest ch).1 = true ↔ s.contradicted ch) := by
      cases ch with
      | p0 =>
        unfold State.zeroCountTest State.contradicted
        by_cases hv : 500 < shadowValue s.board.shadowEngine
        · simp only [hv, if_true, he]
          cases hs : s.board.shadowEngine <;> simp_all [shadowValue]
        · simp only [hv, if_false, true_and]
          cases hs : s.board.shadowEngine <;> simp_all [shadowValue]
      | p2 =>
        unfold State.zeroCountTest State.contradicted
        by_cases hv : 200 < shadowValue s.board.shadowOutput
        · simp only [hv, if_true, ho]
          cases hs : s.board.shadowOutput <;> simp_all [shadowValue]
        · simp only [hv, if_false, true_and]
          cases hs : s.board.shadowOutput <;> simp_all [shadowValue]
      | p3 => simp [State.zeroCountTest, State.contradicted]
      | p1 =>
        have hin : ∀ x, s.board.shadowGear = some x → (s.shadowInGear = true ↔
            ((1 ≤ x.value ∧ x.value ≤ 12 ∧ x.value ≤ s.tune.gearbox.forward)
              ∨ ((x.value = -1 ∨ x.value = -2) ∧ -x.value ≤ s.tune.gearbox.reverse))) := by
          intro x hx
          simp only [State.shadowInGear, shadowValue, hx, Option.map_some, Option.getD_some, nonNeutral, GearTune.store,
            slipping, Bool.and_eq_true, decide_eq_true_eq]
          split <;> omega
        have hnone : s.board.shadowGear = none → s.shadowInGear = false := by
          intro hx; simp [State.shadowInGear, shadowValue, hx, nonNeutral]
        unfold State.zeroCountTest State.contradicted
        by_cases hc : s.monitor.state = .running ∧ s.board.clutchClosed = true ∧ s.shadowInGear = true
        · simp only [hc, and_self, if_true, hg]
          obtain ⟨h1, h2, h3⟩ := hc
          simp only [Board.clutchClosed, QRecord.known, Bool.and_eq_true, decide_eq_true_eq] at h2
          constructor
          · trivial
          constructor
          · rintro ⟨x, hx, hq⟩; exact ⟨trivial, h2, x, hx, hq, (hin x hx).1 h3⟩
          · rintro ⟨_, _, x, hx, hq, _⟩; exact ⟨x, hx, hq⟩
        · simp only [hc, if_false, true_and]
          constructor
          · intro h; exact absurd h nofun
          · rintro ⟨h1, h2, x, hx, hq, hv⟩
            refine absurd ⟨h1, ?_, (hin x hx).2 hv⟩ hc
            simpa [Board.clutchClosed, QRecord.known] using h2
    have e : s.implausible ch = s.zeroCountTest ch := by
      simp only [State.implausible]
      rw [if_neg ht, if_neg hb, if_pos h0]
    rw [e]
    exact ⟨key.1, key.2.trans ⟨fun k => ⟨ht, .inr (.inr ⟨h0, k⟩)⟩, fun k => k.2.elim (fun e => absurd (.inl e) hb)
      (fun e => e.elim (fun e => absurd (.inr e) hb) (·.2))⟩⟩
  · simp [State.implausible, ht, hb, h0]

/-- The gear that R31 gives is the one the board derives. -/
theorem State.derivedGear_eq (s : State) (g : Int) (h : s.derives g) :
    s.derivedGear (s.board.inputSpeed.value.toNat * 64 / s.board.outputSpeed.value.toNat) = g := by
  have main : ∀ (n : Nat) (ratios : List Nat) (sign : Nat → Int) (m : Nat → Bool) (other : Int), n ≤ ratios.length →
      ((∃ i, i < n ∧ m (ratios.getD i 0) = true ∧ (∀ j, j < i → m (ratios.getD j 0) = false) ∧ g = sign i)
        ∨ ((∀ i, i < n → m (ratios.getD i 0) = false) ∧ g = other)) →
      (match ((ratios.take n).mapIdx (fun i q => (sign i, q))).find? (fun e => m e.2) with
        | some e => e.1
        | none => other) = g := by
    intro n
    induction n with
    | zero =>
      intro ratios sign m other _ h
      rcases h with ⟨i, hi, _⟩ | ⟨_, rfl⟩
      · omega
      · simp
    | succ n ih =>
      intro ratios sign m other hn h
      cases ratios with
      | nil => simp at hn
      | cons q rest =>
        simp only [List.take_succ_cons, List.mapIdx_cons, List.find?_cons]
        by_cases hm : m q = true
        · simp only [hm]
          rcases h with ⟨i, _, hi, hj, rfl⟩ | ⟨h, _⟩
          · cases i with
            | zero => rfl
            | succ i => have := hj 0 (by omega); simp_all
          · have := h 0 (by omega); simp_all
        · simp only [hm]
          refine ih rest (fun i => sign (i + 1)) m other (by simpa using hn) ?_
          rcases h with ⟨i, h1, h2, h3, rfl⟩ | ⟨h, rfl⟩
          · cases i with
            | zero => exact absurd (by simpa using h2) hm
            | succ i =>
              exact .inl ⟨i, by omega, by simpa using h2, fun j hj => by simpa using h3 (j + 1) (by omega), rfl⟩
          · exact .inr ⟨fun i hi => by simpa using h (i + 1) (by omega), rfl⟩
  obtain ⟨hl, hc⟩ := h
  unfold State.derivedGear State.ratioList ratioMatches
  have hopen : s.board.clutchOpen = true ↔ (s.board.clutch.age ≠ .unknown ∧ s.board.clutch.value = 1) := by
    simp [Board.clutchOpen, QRecord.known]
  by_cases hb : (s.tune.start.reverseWired && s.lines.reverse.level) = true
  · simp only [hb, if_true] at hl hc ⊢
    refine main _ _ (fun i => -(i : Int) - 1) (fun q => decide
      (((s.board.inputSpeed.value.toNat * 64 / s.board.outputSpeed.value.toNat : Nat) - (q : Int)).natAbs * 100
        ≤ s.tune.gearbox.tolerance * q)) _ hl ?_
    rcases hc with ⟨i, h1, h2, h3, rfl⟩ | ⟨h1, rfl⟩
    · exact .inl ⟨i, h1, by simpa using h2, fun j hj => by simpa using h3 j hj, by omega⟩
    · exact .inr ⟨fun i hi => by simpa using h1 i hi, by simp [hopen, slipping]⟩
  · simp only [hb, Bool.false_eq_true, if_false] at hl hc ⊢
    refine main _ _ (fun i => (i : Int) + 1) (fun q => decide
      (((s.board.inputSpeed.value.toNat * 64 / s.board.outputSpeed.value.toNat : Nat) - (q : Int)).natAbs * 100
        ≤ s.tune.gearbox.tolerance * q)) _ hl ?_
    rcases hc with ⟨i, h1, h2, h3, rfl⟩ | ⟨h1, rfl⟩
    · exact .inl ⟨i, h1, by simpa using h2, fun j hj => by simpa using h3 j hj, rfl⟩
    · exact .inr ⟨fun i hi => by simpa using h1 i hi, by simp [hopen, slipping]⟩

end Sys2Proof.Machine
end

