-- ==== Sys2Proof/Tests/Slice0.lean ====
section
/-! SUPPORT. The model's own tests: WellFormed's checks, the port's transactions, single steps against the worked examples
of the spec, and for every statement with hypotheses a named witness that meets them. -/

open Sys2Proof Sys2Proof.Machine

/-! ### States for the tests -/

/-- The scanner holds a slip. -/
def Sys2Proof.Machine.State.holding (s : State) (p : Slip) : State :=
  { s with scanner := { s.scanner with state := .scanning, held := some ⟨p, 0, 0⟩ } }

/-- DEPOT. -/
def Sys2Proof.Machine.State.inDepot (s : State) : State := { s with depot := { s.depot with state := .depot, timer := .running 1800000 } }

namespace Sys2Proof.Tests

/-- The state a command answers with. -/
def after (c : Instr) (s : State) : State :=
  match exec c s with
  | .next t => t
  | .fault f => nomatch f
  | .refused _ => s

/-- A slip with its in-buffer at 0x0500 and its out-buffer at 0x0800. -/
def slipOf (kind : SlipKind) (inLength outLength : Nat) (flags : Byte) : Slip :=
  ⟨kind, flags, 0x0500, inLength, 0x0800, outLength⟩

/-- In RUN after the starting line levels: IGN active, the monitor ARMED, windows, quantum and self-poll running. -/
def settled (s : State) : State :=
  let line : LineState := ⟨false, false, none, false⟩
  { s with
    lines := ⟨⟨true, true, none, false⟩, line, line, line⟩
    monitor := { s.monitor with state := .armed }
    sensor := ⟨.on, 0, .stopped, .stopped⟩
    pulse := { s.pulse with windows := true }
    duty := { s.duty with quantumTimer := .running 0 }
    scanner := { s.scanner with selfPoll := .running 1000 }
    supply := { s.supply with started := true }
    journal := { s.journal with period := .running 600000 } }

/-- A new component. -/
def fresh (cls : ComponentClass) (position : Nat) : Component := ⟨position, [0x41, 0x31], 0, 1, freshBody cls⟩

/-- A truck in RUN with a STARTER, an ENGINE, a GEARBOX and an AXLE fitted. -/
def truck : State :=
  { settled State.reset with
    slots := [some (fresh .starter 1), some (fresh .engine 1), some (fresh .gearbox 1), some (fresh .axle 2), none, none,
      none, none] }

/-- A FRESH record. -/
def freshValue (v : Int) : QRecord := ⟨v, .fresh, .frame, some 0, .running 0⟩

/-- The truck with its engine RUNNING at 1200 rpm in F3, the speed known. -/
def running : State :=
  { truck with
    monitor := { truck.monitor with state := .running, stopTimer := .running 1000 }
    board := { truck.board with engineSpeed := freshValue 1200, engineTorque := freshValue 120, gear := freshValue 3 } }

/-- A page in writing, the scanner in WAIT-SAVE with an attached slip of detail 3. -/
def waiting : State :=
  { truck with
    scanner := { truck.scanner with state := .waitSave, held := some ⟨slipOf .fit 20 0 0, 3, 0⟩ }
    journal := { truck.journal with writing := some ⟨0, 1, false, truck.snapshot⟩, waiting := some true } }

/-- HOLD, entered from RUN. -/
def held : State := { truck with supply := { truck.supply with power := .hold, dwell := .running 250 } }

/-! ### WellFormed -/

theorem test_wellFormed_refuses :
    (Instr.ringWrite []).wellFormed = false ∧ (Instr.noticeWrite []).wellFormed = false
      ∧ (Instr.noticeMaskWrite []).wellFormed = false ∧ (Instr.exchangeMemoryWrite 0x500 []).wellFormed = false
      ∧ (Instr.registerWriteIgnored 0x0B 1 [5]).wellFormed = false
      ∧ (Instr.registerWriteIgnored 0x02 0x900 []).wellFormed = false := by decide

theorem test_wellFormed_accepts :
    (Instr.ringWrite [8]).wellFormed = true ∧ (Instr.registerWriteIgnored 0x0B 0 [5]).wellFormed = true
      ∧ (Instr.registerWriteIgnored 0x0B 5 []).wellFormed = true
      ∧ (Instr.registerWriteIgnored 0x0A 4 []).wellFormed = false := by decide

/-! ### Transactions (12.2), written out byte by byte -/

theorem test_transactions :
    decodeTransaction [0x0B, 2, 0, 7] = some .nudge
      ∧ decodeTransaction [0x0B, 1, 0, 200] = some (.ringWrite [200])
      ∧ decodeTransaction [0x0B, 3, 0, 0x01, 0x08] = some (.noticeWrite [0x01, 0x08])
      ∧ decodeTransaction [0x0B, 4, 0, 0xFF, 0x0F] = some (.noticeMaskWrite [0xFF, 0x0F])
      ∧ decodeTransaction [0x03, 0x00, 0x05, 0xA5, 0x0C] = some (.exchangeMemoryWrite 0x0500 [0xA5, 0x0C])
      ∧ decodeTransaction [0x0B, 0, 0, 9] = some (.registerWriteIgnored 0x0B 0 [9])
      ∧ decodeTransaction [0x07, 5, 6] = some (.registerWriteIgnored 0x07 0x0605 []) := by decide

/-! ### Single steps against the spec's own figures -/

/-- R43: 60 teeth, 47 edges, 470 rpm; R20: 1 tooth and 2000 edges is stored as 8000. -/
theorem test_window_speed :
    (after (.windowEnd .p1) { truck with pulse := { truck.pulse with p1 := ⟨47, false, 0, .good⟩ } }).board.inputSpeed.value = 470
      ∧ (after (.windowEnd .p1) { truck with
          pulse := { truck.pulse with p1 := ⟨2000, false, 0, .good⟩ }
          tune := { truck.tune with pulse := { truck.tune.pulse with teeth1 := 1 } } }).board.inputSpeed.value = 8000 := by
  decide

/-- R47: with the limit at 8 the eighth implausible window faults a channel, with CHANNEL. -/
theorem test_eighth_bad_window :
    let s := { truck with pulse := { truck.pulse with p1 := ⟨2001, false, 7, .good⟩ } }
    (after (.windowEnd .p1) s).pulse.p1 = ⟨0, false, 8, .faulted⟩ ∧ (after (.windowEnd .p1) s).noticeSet .channel = true := by
  decide

/-- An entry with the scaling of a row of R65. -/
def scaled (multiplier divisor : Nat) (offset : Int) : RouteEntry := ⟨0, .engineSpeed, 0, 16, true, multiplier, divisor, offset⟩

/-- R65's table. -/
theorem test_scaling :
    (scaled 1 8 0).scale 14405 = 1801 ∧ (scaled 1 8 0).scale 14404 = 1801 ∧ (scaled 1 2 0).scale (-3) = -2
      ∧ (scaled 1 2 (-1)).scale 1 = -1 ∧ (scaled 2 1 (-250)).scale 160 = 70 ∧ (scaled 1 1 (-40)).scale 110 = 70 := by decide

/-- R64's table: marks and host times. -/
theorem test_late :
    isLate none 5 = false ∧ isLate (some 1000) 999 = true ∧ isLate (some 1000) 1000 = false
      ∧ isLate (some 1000) 1001 = false ∧ isLate (some 0xFFFFFFF0) 0x10 = false ∧ isLate (some 0x10) 0xFFFFFFF0 = true
      ∧ isLate (some 0) 0x80000000 = false := by decide

/-- R112's table: 200 in F1 on two axles, -250 in REV1 on one, and -3 in F12 on three. -/
theorem test_axle_share :
    let at_ (t g : Int) := { truck with board := { truck.board with engineTorque := freshValue t, gear := freshValue g } }
    (at_ 200 1).axleShare 2 = 187 ∧ (at_ (-250) (-1)).axleShare 1 = 431 ∧ (at_ (-3) 12).axleShare 3 = 0 := by decide

/-- The weights of 7.9.1. -/
def weights791 : CycleTune := ⟨8, 32, [1, 4, 16, 48]⟩

/-- 7.9.1, sample 90: 100 is pushed and the cycle of range 30 closes for 2 half-units. -/
theorem test_closure_791 :
    gate weights791 [0, 40, 10] (some ⟨100, .rising⟩) 90 = ⟨[0, 100], some ⟨90, .falling⟩, [2], 0⟩ := by decide

/-- 7.9.1, the retirement: 113 half-units. -/
theorem test_closeOut_791 :
    closeOut weights791 [0, 100, -20, 60] (some ⟨50, .falling⟩) = ⟨[], [48, 48, 16, 1], 0⟩ := by decide

/-- 7.9.2, the last push: -10 is dropped, a cycle of range 145 closes for 8, and fourteen points are left. -/
theorem test_overflow_792 :
    gate ⟨8, 32, defaultWeights⟩ [-10, 20, -20, 30, -30, 40, -40, 50, -50, 60, -60, 70, -70, 80, -85, 60]
        (some ⟨-100, .falling⟩) 0 =
      ⟨[20, -20, 30, -30, 40, -40, 50, -50, 60, -60, 70, -70, 80, -100], some ⟨0, .rising⟩, [0, 8], 1⟩ := by decide

/-- 6.12.1, quanta 1 and 2: 11,309 J with 9,409 over, then 8,796 J with 14,605 over. -/
theorem test_slip_energy :
    let s (slip : Nat) (t : Int) (r : Nat) := { truck with
      board := { truck.board with engineTorque := freshValue t }, duty := { truck.duty with spare := r }
      tune := { truck.tune with engine := { truck.tune.engine with reference := 2000 + 0 * slip } } }
    ((s 900 120 0).slipWork 900 / 19099 = 11309 ∧ (s 900 120 0).slipWork 900 % 19099 = 9409)
      ∧ ((s 600 140 9409).slipWork 600 / 19099 = 8796 ∧ (s 600 140 9409).slipWork 600 % 19099 = 14605) := by decide

/-- R149's table. -/
theorem test_cursor :
    let s (cursor ring : Nat) := { truck with
      port := { truck.port with ring := ring }, scanner := { truck.scanner with cursor := cursor } }
    (s 6 16).nextCursor false = 7 ∧ (s 15 16).nextCursor false = 0 ∧ (s 9 16).nextCursor true = 0
      ∧ (s 20 16).nextCursor false = 0 ∧ (s 11 32).nextCursor false = 12 := by decide

/-- R144: references at the edges of the buffer area. -/
theorem test_references :
    referenceGood 0x0500 31488 = true ∧ referenceGood 0x04FF 1 = false ∧ referenceGood 0x7FFF 1 = true
      ∧ referenceGood 0x7FFF 2 = false ∧ referenceGood 0x0000 0 = true := by decide

/-- R22, R35: HELD at 500 ms shows 2 in the mirror of COOLANT_TEMP. -/
theorem test_held_mirror :
    (after (.freshTimerExpiry .coolantTemp)
      { truck with board := { truck.board with coolantTemp := freshValue 70 } }).byteAt 0x8E = 2 := by decide

/-- R53: the fifth failed trial locks the supply off, with SUPPLY. -/
theorem test_locked_off :
    let t := after .sensorSupplyShort { truck with sensor := ⟨.trial, 4, .stopped, .running 50⟩ }
    t.sensor = ⟨.lockedOff, 5, .stopped, .stopped⟩ ∧ t.noticeSet .supply = true := by decide

set_option maxRecDepth 20000 in
/-- R153: the pin reset zeroes exchange memory and leaves the slots. -/
theorem test_pin_reset :
    (after .pinReset truck).port = ⟨[], 16, 0, 0, .powerOn⟩ ∧ (after .pinReset truck).slots = truck.slots
      ∧ (after .pinResetRelease (after .pinReset truck)).byteAt 0x0B = 2 := by decide

/-! ### Witnesses: a state and operands that meet the hypotheses of each statement -/

theorem witness_StepRunsTheFrontCommand : State.reset.pending = [] := rfl

/-- The truck with a nudge and an edge waiting. -/
def queued : State := { truck with pending := [.nudge, .pulseEdge .p0] }

/-- A step answers a next state there. -/
theorem queued_steps : ∃ t, step queued = .next t := ⟨_, rfl⟩

/-- No page of it is whole and none is in writing, so every property of the journal's snapshots holds. -/
theorem queued_every (good : Snapshot → Prop) : queued.journal.every good := by
  constructor
  · intro n c h
    simp [queued, truck, settled, State.reset, Journal.factory] at h
  · intro w h
    exact absurd h nofun

/-- The fitted slots of the truck. -/
theorem queued_fitted (c : Component) (h : some c ∈ queued.slots) :
    c = fresh .starter 1 ∨ c = fresh .engine 1 ∨ c = fresh .gearbox 1 ∨ c = fresh .axle 2 := by
  simpa [queued, truck] using h

theorem witness_StepKeepsMemoryForm : queued.port.mem.wf ∧ ∃ t, step queued = .next t := ⟨by decide, queued_steps⟩

theorem witness_StepKeepsRingAndCursor : queued.ringLegal ∧ ∃ t, step queued = .next t := ⟨by decide, queued_steps⟩

/-- The truck while RESETn is low, with its release waiting. -/
def inReset : State := { (after .pinReset truck) with pending := [.quantumExpiry] }

theorem witness_StepKeepsResetQuiet : inReset.resetLow = true ∧ inReset.quietInReset ∧ ∃ t, step inReset = .next t :=
  ⟨rfl, fun _ => by decide, _, rfl⟩

theorem witness_StepKeepsDepotAndHireApart : (State.inDepot queued).depotOrHire ∧ ∃ t, step (State.inDepot queued) = .next t :=
  ⟨by decide, _, rfl⟩

theorem witness_StepKeepsChannelLaw : queued.channelLaw ∧ ∃ t, step queued = .next t :=
  ⟨⟨by unfold limitLegal; decide, by intro ch; cases ch <;> exact (by decide : 0 < 8), queued_every _⟩, queued_steps⟩

theorem witness_StepKeepsPlacesDistinct : queued.placesLaw ∧ ∃ t, step queued = .next t := by
  refine ⟨⟨?_, queued_every _⟩, queued_steps⟩
  intro i j c d hi hj hcls _
  have small : ∀ (k : Nat) (e : Component), queued.slots[k]? = some (some e) →
      (k = 0 ∧ e.cls = .starter) ∨ (k = 1 ∧ e.cls = .engine) ∨ (k = 2 ∧ e.cls = .gearbox) ∨ (k = 3 ∧ e.cls = .axle) := by
    intro k e h
    match k with
    | 0 => cases h; exact .inl ⟨rfl, rfl⟩
    | 1 => cases h; exact .inr (.inl ⟨rfl, rfl⟩)
    | 2 => cases h; exact .inr (.inr (.inl ⟨rfl, rfl⟩))
    | 3 => cases h; exact .inr (.inr (.inr ⟨rfl, rfl⟩))
    | 4 => cases h
    | 5 => cases h
    | 6 => cases h
    | 7 => cases h
    | n + 8 => cases h
  rcases small i c hi with h | h | h | h <;> rcases small j d hj with g | g | g | g <;>
    rw [h.2, g.2] at hcls <;> first | exact h.1.trans g.1.symm | cases hcls

/-- The state a step answers with. -/
def stepped (s : State) : State :=
  match step s with
  | .next t => t
  | .fault f => nomatch f
  | .refused _ => s

theorem witness_StepKeepsResidueLaw : queued.residueLaw ∧ ∃ t, step queued = .next t := by
  refine ⟨⟨⟨?_, by unfold gatesLegal; decide⟩, queued_every _⟩, queued_steps⟩
  intro c hc r hr
  rcases queued_fitted c hc with rfl | rfl | rfl | rfl <;> cases hr <;> exact ⟨by decide, rfl, rfl⟩

/-- A sample waits in RUN, and a battery below the stop level takes it into the HOLD that follows with none waiting (R6). -/
theorem witness_StepKeepsResidueLaw_samples :
    let s := { queued with samples := [⟨2, 9, false⟩], pending := [.batteryBelowStop 5999] }
    s.samplesLaw ∧ (stepped s).supply.power = .hold ∧ (stepped s).samples = [] ∧ (stepped s).samplesLaw := by decide

theorem queued_lawful : bodiesLawful queued.slots := by
  intro c hc
  rcases queued_fitted c hc with rfl | rfl | rfl | rfl <;>
    simp only [fresh, freshBody, Body.lawful, StartCounts.bounded, StartCounts.zero] <;> decide

theorem witness_StepKeepsCounterLaw : queued.countersLaw ∧ ∃ t, step queued = .next t := by
  refine ⟨⟨⟨queued_lawful, ?_, nofun, ?_, nofun⟩, ?_, ⟨by decide, nofun⟩, queued_every _⟩, queued_steps⟩
  · intro c hc
    rcases queued_fitted c hc with rfl | rfl | rfl | rfl <;> exact (by decide : 1 ≤ Config.eventCeiling)
  · unfold Counts.bounded StartCounts.bounded; decide
  · intro k; cases k <;> exact Nat.zero_le _

/-- R130: an open hire whose gearbox has taken 3 half-units of the 5 its accumulator holds. -/
theorem witness_StepKeepsCounterLaw_withAHire :
    let worked : Component := ⟨1, [0x41], 0, 1, .gearbox ⟨0, List.replicate 16 0, ⟨5, 0, [], none⟩⟩⟩
    ∃ c r, [none, none, some worked][2]? = some (some c) ∧ c.body.residue = some r
      ∧ (DamageEntry.mk 2 .gearbox 1 [0x41] 3 false).delta ≤ r.damage :=
  ⟨_, _, rfl, rfl, by decide⟩

theorem witness_StepKeepsRoutesDistinct : queued.routesLaw ∧ ∃ t, step queued = .next t :=
  ⟨⟨by decide, queued_every _⟩, queued_steps⟩

/-- The default tune set is legal. -/
theorem default_legal : TuneSet.default.legal := by
  refine ⟨?_, ?_, ?_, ?_, ?_, ?_, ?_⟩ <;> decide

theorem witness_StepKeepsTuneLegal : queued.tuneLaw ∧ ∃ t, step queued = .next t :=
  ⟨⟨default_legal, queued_every _⟩, queued_steps⟩

theorem witness_StepKeepsJournalLaw : queued.journalLaw ∧ ∃ t, step queued = .next t := by
  have none_whole : ∀ (i n : Nat) (c : Snapshot), queued.journal.pages[i]? ≠ some (.whole n c) := by
    intro i n c h
    exact absurd (List.mem_of_getElem? h) (by simp [queued, truck, settled, State.reset, Journal.factory])
  exact ⟨⟨rfl, fun i j n c d h _ => absurd h (none_whole i n c), fun _ i n c h => absurd h (none_whole i n c),
    fun _ w h => absurd h nofun⟩, queued_steps⟩

/-- A checkpoint in writing: its page reads as torn with its sequence (notes/assumptions/11.md). -/
theorem witness_StepKeepsJournalLaw_inWriting :
    truck.startCheckpoint.journal.writing.map (fun w => (w.page, w.sequence)) = some (0, 1)
      ∧ truck.startCheckpoint.journal.pages[0]? = some (.torn 1)
      ∧ (after .powerLoss truck.startCheckpoint).journal.pages[0]? = some (.torn 1) := by decide

theorem witness_CountersNeverFall :
    bodiesLawful queued.slots ∧ queued.powered = true ∧ (∃ t, exec .quantumExpiry queued = .next t ∧ t.powered = true
      ∧ queued.slotAt 1 = some (fresh .engine 1) ∧ t.slotAt 1 = some (fresh .engine 1)) :=
  ⟨queued_lawful, rfl, _, rfl, rfl, rfl, rfl⟩

theorem witness_TransactionsDecodeToTheirCommands :
    (Instr.exchangeMemoryWrite 0x7FFF [1, 2]).wellFormed = true
      ∧ encodeTransaction (.exchangeMemoryWrite 0x7FFF [1, 2]) = some [0x03, 0xFF, 0x7F, 1, 2] := by decide

theorem witness_RegisterWritesStoreTheirBits : truck.live := by decide

theorem witness_PortIgnoresWhatItMust : inReset.resetLow = true := rfl

theorem witness_MemoryWriteReadsBack :
    truck.live ∧ truck.port.mem.wf ∧ ([1, 2, 3] : List Byte).length ≤ Config.memorySize := by decide

theorem witness_RegistersReadTheirValues : truck.live := by decide

/-- The truck with an empty ring but for slip 0, DEVICE, of a kind. -/
def ringed (kind : Byte) : State := truck.store 0x0100 [0xA5, kind]

theorem witness_NudgesReachTheScanner :
    ((truck.holding (slipOf .nop 0 0 0)).live ∧ (truck.holding (slipOf .nop 0 0 0)).scanner.state ≠ .idle)
      ∧ (truck.supply.power = .run ∧ truck.scanner.selfPoll = .running 1000)
      ∧ ((ringed 12).live ∧ (ringed 12).port.mem.wf ∧ (ringed 12).ringLegal ∧ (ringed 12).scanner.state = .idle
        ∧ (ringed 12).scanner.nudgePending = false ∧ (ringed 12).ownedByDevice 0 = true
        ∧ kindOfCode ((ringed 12).byteAt 0x0101).toNat = some .nop)
      ∧ truck.ownedByDevice 0 = false := by decide

theorem witness_ReturnWritesTheSlip :
    (truck.holding (slipOf .peek 4 96 9)).live ∧ truck.port.mem.wf ∧ truck.ringLegal
      ∧ (slipOf .peek 4 96 9).referencesGood = true ∧ 90 ≤ (slipOf .peek 4 96 9).outLength
      ∧ (slipOf .peek 4 96 9).clear = true ∧ (slipOf .peek 4 96 9).notify = true ∧ Status.done ≠ .badReference := by decide

theorem witness_ReturnReadsTheNextSlip :
    (truck.holding (slipOf .nop 0 0 0)).scanner.state = .scanning ∧ truck.ownedByDevice (truck.nextCursor false) = false
      ∧ (truck.store 0x0110 [0xA5, 12]).nextCursor false ≠ 0
      ∧ (truck.store 0x0110 [0xA5, 12]).ownedByDevice (truck.nextCursor false) = true
      ∧ kindOfCode ((truck.store 0x0110 [0xA5, 12]).byteAt 0x0111).toNat = some .nop := by decide

/-- R147's second row: a nudge that is pending at a HOST slip is cleared, and the scanner is IDLE after the second reading. -/
theorem test_nudge_pending_at_host :
    let s := { truck.holding (slipOf .nop 0 0 0) with
      scanner := { (truck.holding (slipOf .nop 0 0 0)).scanner with nudgePending := true } }
    (s.returnSlip (slipOf .nop 0 0 0) ⟨.done, 0, 0⟩).scanner.state = .idle
      ∧ (s.returnSlip (slipOf .nop 0 0 0) ⟨.done, 0, 0⟩).scanner.nudgePending = false
      ∧ (after .nudge { truck with scanner := { truck.scanner with nudgePending := true } }).scanner.nudgePending = false := by
  decide

theorem witness_BadSlipsAreReturned :
    (truck.holding ⟨.feed, 0, 0x0500, 16, 0x04FF, 1⟩).dispatched .feed = some ⟨.feed, 0, 0x0500, 16, 0x04FF, 1⟩
      ∧ (Slip.mk .feed 0 0x0500 16 0x04FF 1).referencesGood = false
      ∧ (ringed 13).ownedByDevice 0 = true ∧ kindOfCode ((ringed 13).byteAt 0x0101).toNat = none
      ∧ (readSlip (ringed 13).port.mem 0x0100 .nop).referencesGood = true
      ∧ (ringed 13).ownedByDevice ((ringed 13).nextCursor false) = false := by decide

theorem witness_NopReturnsAndSaveWaits :
    (truck.holding (slipOf .nop 0 0 0)).holdsSlip .nop (slipOf .nop 0 0 0)
      ∧ (truck.holding (slipOf .save 0 0 0)).holdsSlip .save (slipOf .save 0 0 0) ∧ truck.resetLow = false
      ∧ truck.port.mem.wf ∧ truck.journalFree ∧ waiting.journal.writing ≠ none ∧ held.supply.power = .hold := by decide

/-- Two route entries in the in-buffer. -/
def routed (second : Byte) : State :=
  truck.store 0x0500 [2, 0, 0, 0,
    0x10, 0, 0, 0, 0, 0, 16, 0, 1, 0, 8, 0, 0, 0, 0, 0,
    0x10, 0, 0, 0, second, 0, 8, 0, 1, 0, 1, 0, 0xD8, 0xFF, 0, 0]

/-- The two entries read. -/
def routeEntries (second : RouteTarget) : List RouteEntry :=
  [⟨0x10, .engineSpeed, 0, 16, false, 1, 8, 0⟩, ⟨0x10, second, 0, 8, false, 1, 1, -40⟩]

theorem witness_RouteIsCheckedAndLoaded :
    let p := slipOf .route 36 0 0
    ((routed 5).holding p).holdsSlip .route p ∧ (routed 5).resetLow = false
      ∧ memLe (routed 5).port.mem 2 0x0500 = 2
      ∧ readRouteEntry (routed 5).port.mem 0x0504 = some ⟨0x10, .engineSpeed, 0, 16, false, 1, 8, 0⟩
      ∧ readRouteEntry (routed 5).port.mem 0x0514 = some ⟨0x10, .coolantTemp, 0, 8, false, 1, 1, -40⟩
      ∧ routesDistinct (routeEntries .coolantTemp)
      ∧ readRouteEntry (routed 1).port.mem 0x0514 = none
      ∧ readRouteEntry (routed 0).port.mem 0x0514 = some ⟨0x10, .engineSpeed, 0, 8, false, 1, 1, -40⟩ := by decide

/-- An entry at 0x0504 read from its sixteen bytes (12.5). -/
def entryOf (target start width signed multiplier divisor : Byte) : Option RouteEntry :=
  readRouteEntry (truck.store 0x0504
    [0x10, 0, 0, 0xE0, target, start, width, signed, multiplier, 0, divisor, 0, 0xD8, 0xFF, 0, 0]).port.mem 0x0504

/-- R58 check 4: each of the six faults, and entries at the edges of what it lets pass; 12.5: the tag's upper bits ignored, the offset
signed. -/
theorem witness_RouteIsCheckedAndLoaded_entries :
    entryOf 1 0 16 0 1 8 = none ∧ entryOf 3 0 16 0 1 8 = none ∧ entryOf 8 0 16 0 1 8 = none ∧ entryOf 0 64 1 0 1 8 = none
      ∧ entryOf 0 0 0 0 1 8 = none ∧ entryOf 0 0 17 0 1 8 = none ∧ entryOf 0 49 16 0 1 8 = none ∧ entryOf 0 0 16 0 0 8 = none
      ∧ entryOf 0 0 16 0 1 0 = none
      ∧ entryOf 7 48 16 2 1 8 = some ⟨0x10, .gear, 48, 16, true, 1, 8, -40⟩
      ∧ entryOf 2 63 1 0 1 8 = some ⟨0x10, .outputSpeed, 63, 1, false, 1, 8, -40⟩ := by decide

theorem witness_FeedIsCheckedOnce :
    let p := slipOf .feed 16 0 0
    (truck.holding p).holdsSlip .feed p ∧ truck.intake.feed = none
      ∧ (truck.holding (slipOf .feed 31488 0 0)).holdsSlip .feed ⟨.feed, 0, 0x0500, 31488, 0x0800, 0⟩ := by decide

/-- A FEED in progress: two records, none handled yet. -/
def feeding (inHand : Option FrameInHand) (next : Nat) : State :=
  { truck.holding (slipOf .feed 32 0 0) with intake := { truck.intake with feed := some ⟨0x0500, 2, next, inHand, 0⟩ } }

/-- A record of eight zero bytes. -/
def blankFrame : Frame := ⟨0x10, 0, 8, [0, 0, 0, 0, 0, 0, 0, 0]⟩

theorem witness_FeedGoesRecordByRecord :
    ((feeding none 0).live ∧ (feeding none 0).port.mem.wf ∧ (feeding none 0).intake.routes = []
        ∧ (feeding none 0).intake.tallies.taken < Config.tallyCeiling)
      ∧ (feeding (some ⟨blankFrame, [0, 1]⟩) 1).intake.feed = some ⟨0x0500, 2, 1, some ⟨blankFrame, [0, 1]⟩, 0⟩
      ∧ (feeding (some ⟨blankFrame, [1]⟩) 2).holdsSlip .feed (slipOf .feed 32 0 0)
      ∧ (feeding (some ⟨blankFrame, [0]⟩) 1).powered = true
      ∧ (after .feedCandidate (feeding (some ⟨blankFrame, [0]⟩) 1)).intake.feed = some ⟨0x0500, 2, 1, none, 0⟩ := by decide

/-- A FEED whose two records carry tag 0 and no data bits set, over a table of two entries for that tag: ENGINE_SPEED and torque. -/
def routedFeed (routes : List Route) (next : Nat) : State :=
  { (feeding none next).store 0x0500 [0, 0, 0, 0, 0, 0, 0, 0, 8] with
    intake := { truck.intake with feed := some ⟨0x0500, 2, next, none, 4⟩, routes := routes } }

/-- An entry for the tag of a blank record. -/
def blankRoute (target : RouteTarget) : Route := ⟨⟨0, target, 0, 8, false, 1, 1, 0⟩, none⟩

/-- R61, R69: a matching record is TAKEN and its first candidate alone handled; a last record that matches one entry, or none, ends the
FEED with the count. -/
theorem witness_FeedGoesRecordByRecord_onAMatch :
    matchingRoutes [blankRoute .coolantTemp, ⟨⟨1, .gear, 0, 8, false, 1, 1, 0⟩, none⟩, blankRoute .engineTorque] 0 = [0, 2]
      ∧ (let t := after .feedCandidate (routedFeed [blankRoute .coolantTemp, blankRoute .engineTorque] 0)
        t.intake.tallies.taken = 1 ∧ t.board.coolantTemp.age = .fresh ∧ t.board.engineTorque.age = .unknown
          ∧ t.intake.feed.map (fun w => (w.next, w.applied, w.inHand.map (·.left))) = some (1, 5, some [1]))
      ∧ (let s := routedFeed [blankRoute .coolantTemp] 1
        s.holdsSlip .feed (slipOf .feed 32 0 0) ∧ (after .feedCandidate s).intake.feed = none
          ∧ memLe (after .feedCandidate s).port.mem 2 0x010E = 5)
      ∧ (let s := routedFeed [] 1
        (after .feedCandidate s).intake.feed = none ∧ (after .feedCandidate s).intake.tallies.unrouted = 1
          ∧ memLe (after .feedCandidate s).port.mem 2 0x010E = 4) := by decide

theorem witness_CandidateEndsByItsRule :
    let e : RouteEntry := ⟨0x10, .engineSpeed, 0, 16, false, 1, 8, 0⟩
    let s := { truck with intake := { truck.intake with routes := [⟨e, some 1000⟩] } }
    s.intake.routes[0]? = some ⟨e, some 1000⟩ ∧ ¬ (e.startBit + e.width ≤ 8 * 1)
      ∧ leNat [0xFF, 0xFF] / 2 ^ e.startBit % 2 ^ e.width = 2 ^ e.width - 1
      ∧ (1 ≤ ((1000 : BitVec 32) - 999).toNat ∧ ((1000 : BitVec 32) - 999).toNat ≤ 2 ^ 31 - 1)
      ∧ ((1000 : BitVec 32) - 1000).toNat = 0
      ∧ (truck.supply.power ≠ .doze ∧ truck.tune.pulse.teeth0 ≠ 0 ∧ truck.pulse.p0.health ≠ .faulted
        ∧ truck.tune.start.clutchWired = false ∧ running.board.gear.source ≠ .derived)
      ∧ truck.live ∧ truck.port.mem.wf ∧ ∀ k : Fin 7, truck.intake.tallies.inOrder.getD k 0 < Config.tallyCeiling := by decide

/-- R66, R67, R26: at a channel that feeds ENGINE_SPEED itself a frame's 9000 rpm is CLAMPED, cast as 8000 and SHADOWED; with the
channel FAULTED it is applied; in DOZE it casts nothing. -/
theorem test_delivery :
    let s := truck.deliverValue .engineSpeed 9000
    let faulted := { truck with pulse := { truck.pulse with p0 := ⟨0, false, 8, .faulted⟩ } }
    let doze := { truck with supply := { truck.supply with power := .doze } }
    s.1 = false ∧ s.2.intake.tallies.clamped = 1 ∧ s.2.intake.tallies.shadowed = 1
      ∧ s.2.board.shadowEngine = some ⟨8000, 0, 0⟩ ∧ s.2.board.engineSpeed.age = .unknown
      ∧ (faulted.deliverValue .engineSpeed 9000).1 = true
      ∧ (faulted.deliverValue .engineSpeed 9000).2.board.engineSpeed.value = 8000
      ∧ (doze.deliverValue .engineSpeed 9000).1 = false
      ∧ (doze.deliverValue .engineSpeed 9000).2.board.shadowEngine = none := by decide

theorem witness_ScalingRoundsHalfAwayFromZero : 0 < (scaled 1 8 0).divisor := by decide

theorem witness_TorqueSampleIsApplied :
    truck.live ∧ truck.supply.power ≠ .doze ∧ (-250 : Int) ≤ -250 ∧ (250 : Int) ≤ 250 ∧ held.supply.power = .hold
      ∧ (running.supply.power = .run ∧ running.board.clutch.age = .unknown ∧ running.board.gear.value = 3
        ∧ running.tune.gearbox.forwardRatios.getD 2 0 ≤ 2047 ∧ running.slotAt 3 = some (fresh .axle 2)
        ∧ (running.deliverValue .engineTorque (-250)).2.samples = [⟨2, -250, false⟩, ⟨3, -282, false⟩])
      ∧ truck.port.mem.wf ∧ (-40 : Int) ≤ 210 := by decide

/-- A new PTO's fit header in the in-buffer, in DEPOT. -/
def fitting : State := State.inDepot (truck.store 0x0500 [6, 1, 2, 0, 0x41, 0x31])

/-- The class a FIT check answers. -/
def fitClass (s : State) (p : Slip) : Option ComponentClass :=
  match checkFit s p with
  | .ok cls => some cls
  | .error _ => none

theorem witness_FitFillsTheLowestFreeSlot :
    let p := slipOf .fit 20 0 0
    (fitting.holding p).holdsSlip .fit p ∧ fitting.resetLow = false ∧ fitting.port.mem.wf ∧ fitting.journalFree
      ∧ fitClass (fitting.holding p) p = some .pto ∧ fitting.slots[4]? = some none
      ∧ (∀ i : Fin 4, fitting.slots[i.val]? ≠ some none) := by decide

/-- R138, notes/assumptions/26.md: a list of eight loses the first released entry. -/
theorem test_bucket_drops_the_first_released :
    let e (slot : Nat) (released : Bool) : DamageEntry := ⟨slot, .axle, 1, [], 0, released⟩
    appendEntry [e 0 false, e 1 true, e 2 true, e 3 false, e 4 false, e 5 false, e 6 false, e 7 false] (e 1 false) =
      [e 0 false, e 2 true, e 3 false, e 4 false, e 5 false, e 6 false, e 7 false, e 1 false] := by decide

/-- A selector of slot 2 in the in-buffer, in DEPOT. -/
def unfitting : State := State.inDepot (truck.store 0x0500 [0, 2, 0, 0])

/-- The slot an UNFIT check answers. -/
def unfitSlot (s : State) (p : Slip) : Option (Nat × Component) :=
  match checkUnfit s p with
  | .ok found => some found
  | .error _ => none

set_option maxRecDepth 20000 in
theorem witness_UnfitExportsAndFreesTheSlot :
    let p := slipOf .unfit 4 188 0
    (unfitting.holding p).holdsSlip .unfit p ∧ unfitting.resetLow = false ∧ unfitting.port.mem.wf ∧ unfitting.journalFree
      ∧ p.retire = false ∧ unfitSlot (unfitting.holding p) p = some (2, fresh .gearbox 1) ∧ unfitting.samples = []
      ∧ ((fresh .gearbox 1).exportBytes false).length = (fresh .gearbox 1).exportLength := by decide

/-- A gearbox with the residue that 7.9.1 ends with. -/
def worn : Component := ⟨1, [0x41], 0, 1, .gearbox ⟨0, List.replicate 16 0, ⟨2, 0, [0, 100, -20, 60], some ⟨50, .falling⟩⟩⟩⟩

/-- A slip to retire slot 2, in whose gearbox `worn` runs. -/
def retirement : Slip := slipOf .unfit 4 188 4

/-- The state that holds it, with the samples that wait. -/
def retiring (samples : List SlotSample) : State :=
  { unfitting.holding retirement with slots := unfitting.slots.set 2 (some worn), samples := samples }

set_option maxRecDepth 20000 in
/-- With RETIRE: the close-out leaves a record of the base length; and a slip that names the slot while a sample waits for it. -/
theorem witness_UnfitWithRetireAndWithASample :
    (retiring []).holdsSlip .unfit retirement ∧ (retiring []).live ∧ (retiring []).port.mem.wf ∧ (retiring []).journalFree
      ∧ retirement.retire = true ∧ worn.cls.hasResidue = true ∧ unfitSlot (retiring []) retirement = some (2, worn)
      ∧ (((retiring []).closeOutSlot 2 truck.tune.gearbox.cycle).slotAt 2).map (fun e => (e.exportBytes true).length)
        = some worn.cls.baseLength
      ∧ (retiring [⟨2, 9, false⟩]).unfitSlot retirement = some 2 := by decide

/-- The first sample of a fresh gearbox is its first point, so an export of 190 bytes does not fit 188: R16 refuses the UNFIT, and the
sample goes on waiting. -/
def pointless : State :=
  { unfitting.holding (slipOf .unfit 4 188 0) with samples := [⟨2, 9, false⟩] }

set_option maxRecDepth 20000 in
theorem test_refused_unfit_changes_no_slot :
    (after .unfit pointless).samples = [⟨2, 9, false⟩] ∧ (after .unfit pointless).slots = pointless.slots
      ∧ ((after .unfit pointless).byteAt 0x0103).toNat = Status.shortSpace.code
      ∧ (unfitSlot ((retiring [⟨2, 9, false⟩]).takeWaiting (fun x => decide (x.slot = 2))) retirement).isSome = true := by decide

/-- The state in HOLD. -/
def inHold (s : State) : State := { s with supply := { s.supply with power := .hold } }

/-- The damage in the export that the retirement writes. -/
def damageOut (s : State) : Nat := memLe (after .unfit s).port.mem 8 0x0830

/-- The part after its battery has fallen below the stop level. -/
def fallen (s : State) : State := after (.batteryBelowStop 5999) s

set_option maxRecDepth 20000 in
/-- R6, R11, R127: the samples that wait are taken as the part leaves RUN; an UNFIT in HOLD exports the residue with them, and none
waits there. -/
theorem witness_UnfitExportsAndFreesTheSlot_inHold :
    let s := fallen (retiring [⟨2, -200, false⟩, ⟨3, 9, false⟩])
    s.supply.power = .hold ∧ s.samples = [] ∧ s.holdsSlip .unfit retirement
      ∧ (s.slotAt 2).bind (fun c => c.body.residue.map (·.candidate)) = some (some ⟨-200, .falling⟩)
      ∧ damageOut s = damageOut (retiring [⟨2, -200, false⟩]) ∧ damageOut s ≠ damageOut (retiring []) := by decide

/-- The truck with a sample handed to its gearbox, whose residue is given. -/
def sampled (stack : List Int) (candidate : Option Candidate) (x : Int) : State :=
  { truck with
    samples := [⟨2, x, false⟩]
    slots := truck.slots.set 2 (some ⟨1, [0x41], 0, 1, .gearbox ⟨0, List.replicate 16 0, ⟨0, 0, stack, candidate⟩⟩⟩) }

/-- The residue after the sample is taken. -/
def residueAfter (s : State) : Option (List Int × Option Candidate) :=
  ((after (.sampleAtSlot 2) s).slotAt 2).bind (fun c => c.body.residue.map (fun r => (r.stack, r.candidate)))

/-- The full stack of 7.9.2. -/
def fullStack : List Int := [-10, 20, -20, 30, -30, 40, -40, 50, -50, 60, -60, 70, -70, 80, -85, 60]

theorem witness_CloseOutSettlesTheResidue :
    let s := { truck with slots := truck.slots.set 2 (some worn) }
    s.slotAt 2 = some worn ∧ worn.body.residue = some ⟨2, 0, [0, 100, -20, 60], some ⟨50, .falling⟩⟩
      ∧ [0, 100, -20, (60 : Int)].length < Config.stackLimit ∧ [0, 100, (-20 : Int)].length < 4
      ∧ ((40 - 10 : Int).natAbs ≤ (0 - 40 : Int).natAbs ∧ (40 - 10 : Int).natAbs ≤ (10 - 100 : Int).natAbs)
      ∧ ¬ ((100 - -20 : Int).natAbs ≤ (0 - 100 : Int).natAbs)
      ∧ 16 ≤ fullStack.length ∧ (alternates fullStack = true) := by decide

/-- R124, R117: a full stack and its candidate are closed out with one residue drop, the residue left empty. -/
theorem test_closeOut_full :
    ((sampled fullStack (some ⟨-100, .falling⟩) 0).closeOutSlot 2 weights791 |>.slotAt 2).bind
        (fun c => c.body.residue.map (fun r => (r.stack, r.candidate, r.drops))) = some ([], none, 1)
      ∧ ((sampled fullStack (some ⟨-100, .falling⟩) 0).closeOutSlot 2 weights791).noticeSet .residue = true := by decide

theorem witness_SamplesPassTheGate :
    (sampled [] none 0).supply.power = .run ∧ (sampled [] none 0).samples = [⟨2, 0, false⟩] ∧ held.supply.power ≠ .run
      ∧ residueAfter (sampled [] none 0) = some ([0], none)
      ∧ residueAfter (sampled [0] none 8) = some ([0], some ⟨8, .rising⟩)
      ∧ residueAfter (sampled [0] none (-8)) = some ([0], some ⟨-8, .falling⟩)
      ∧ residueAfter (sampled [0] none 7) = some ([0], none)
      ∧ residueAfter (sampled [0] (some ⟨40, .rising⟩) 33) = some ([0], some ⟨40, .rising⟩)
      ∧ residueAfter (sampled [0] (some ⟨-40, .falling⟩) (-41)) = some ([0], some ⟨-41, .falling⟩)
      ∧ residueAfter (sampled [0] (some ⟨40, .rising⟩) 32) = some ([0, 40], some ⟨32, .falling⟩) := by decide

/-- The rest of the gate's table (R115 to R117): a reversal from a falling candidate; an extension and a candidate at two points,
both ways; a push at 16 points (7.9.2). -/
theorem witness_SamplesPassTheGate_onTwoPointsAndMore :
    residueAfter (sampled [0] (some ⟨-40, .falling⟩) (-32)) = some ([0, -40], some ⟨-32, .rising⟩)
      ∧ residueAfter (sampled [0, 40] none 41) = some ([0, 41], none)
      ∧ residueAfter (sampled [0, 40] none 32) = some ([0, 40], some ⟨32, .falling⟩)
      ∧ residueAfter (sampled [0, 40] none 33) = some ([0, 40], none)
      ∧ residueAfter (sampled [0, -40] none (-41)) = some ([0, -41], none)
      ∧ residueAfter (sampled [0, -40] none (-32)) = some ([0, -40], some ⟨-32, .rising⟩)
      ∧ residueAfter (sampled [0, -40] none (-33)) = some ([0, -40], none)
      ∧ residueAfter (sampled fullStack (some ⟨-100, .falling⟩) 0) =
        some ([20, -20, 30, -30, 40, -40, 50, -50, 60, -60, 70, -70, 80, -100], some ⟨0, .rising⟩)
      ∧ (after (.sampleAtSlot 2) (sampled fullStack (some ⟨-100, .falling⟩) 0)).noticeSet .residue = true := by decide

theorem witness_PeekCopiesItsTarget :
    let p := slipOf .peek 4 96 0
    let s := fun (b : List Byte) => (truck.store 0x0500 b).holding p
    (s [4]).holdsSlip .peek p ∧ readPeekTarget (s [4]).port.mem 0x0500 = some .quantities
      ∧ (s [4]).board.bytes.length = 96 ∧ readPeekTarget (s [5]).port.mem 0x0500 = none
      ∧ readPeekTarget (s [2]).port.mem 0x0500 = some .openHire ∧ truck.hires.hire = none
      ∧ readPeekTarget (s [0, 7]).port.mem 0x0500 = some (.slot (.byNumber 7)) ∧ truck.findSpec (.byNumber 7) = none := by decide

theorem witness_ExportImportsUnchanged : truck.port.mem.wf ∧ worn.travels ∧ 0x0500 + worn.exportLength ≤ Config.memorySize := by
  refine ⟨by decide, ?_, by decide⟩
  simp only [Component.travels, worn, Body.lawful, Residue.travels, Residue.lawful]
  decide

theorem witness_SlipsAreRefusedByTheirChecks :
    let p := slipOf .tune 8 0 0
    truck.depot.state = .normal ∧ (truck.holding p).holdsSlip .tune p
      ∧ ((truck.holding (slipOf .hireOpen 4 500 0)).holdsSlip .hireOpen (slipOf .hireOpen 4 500 0))
      ∧ ((truck.holding (slipOf .hireOpen 4 103 0)).holdsSlip .hireOpen (slipOf .hireOpen 4 103 0))
      ∧ ((truck.holding (slipOf .hireClose 0 0 0)).holdsSlip .hireClose (slipOf .hireClose 0 0 0))
      ∧ ((truck.holding (slipOf .depotOut 0 0 0)).holdsSlip .depotOut (slipOf .depotOut 0 0 0))
      ∧ sectionOfCode ((unfitting.store 0x0500 [10]).byteAt 0x0500).toNat = none
      ∧ sectionOfCode ((unfitting.store 0x0500 [1]).byteAt 0x0500).toNat = some .supply
      ∧ TuneSection.supply.length = 8
      ∧ (readSection truck.tune (unfitting.store 0x0500 [1, 0, 0, 0, 13]).port.mem 0x0500 .supply).isNone = true := by decide

/-- What an UNFIT of slot 2 with a header in the in-buffer is refused with. -/
def unfitRefusal (bytes : List Byte) (inLength outLength : Nat) : Option Result :=
  let p := slipOf .unfit inLength outLength 0
  match checkUnfit ((State.inDepot (truck.store 0x0500 bytes)).holding p) p with
  | .ok _ => none
  | .error r => some r

/-- What a FIT with an in-buffer is refused with. -/
def fitRefusal (bytes : List Byte) (inLength : Nat) : Option Result :=
  let p := slipOf .fit inLength 0 0
  match checkFit ((State.inDepot (truck.store 0x0500 bytes)).holding p) p with
  | .ok _ => none
  | .error r => some r

/-- A PTO's import: header, body class 6 and `more` from offset 28, the fit count. -/
def importOf (more : List Byte) : List Byte := [6, 1, 1, 0, 0x41] ++ List.replicate 23 0 ++ more

set_option maxRecDepth 20000 in
/-- Each check of R12 to R14 and R16 has a slip that reaches it. -/
theorem witness_SlipsAreRefusedByTheirChecks_ofComponents :
    fitRefusal [6, 1, 1, 0, 0x41] 19 = some (refusal .badLength) ∧ fitRefusal [7, 1, 1, 0, 0x41] 20 = some (refusal .badSlotSpec)
      ∧ fitRefusal [6, 2, 1, 0, 0x41] 20 = some (refusal .badSlotSpec) ∧ fitRefusal [6, 1, 17, 0, 0x41] 20 = some (refusal .badSlotSpec)
      ∧ fitRefusal [6, 1, 1, 0, 0x1F] 20 = some (refusal .badSlotSpec) ∧ fitRefusal [4, 1, 1, 0, 0x41] 20 = some ⟨.slotTaken, 2, 0⟩
      ∧ fitRefusal (importOf [1, 0, 0, 0, 0, 0, 0, 0, 6]) 39 = some (refusal .badLength)
      ∧ fitRefusal (importOf [1, 0, 0, 0, 1, 0, 0, 0, 6]) 60 = some (refusal .badImport)
      ∧ fitRefusal (importOf [1, 0, 0, 0, 0, 0, 0, 0, 5]) 60 = some (refusal .badImport)
      ∧ fitRefusal (importOf [1, 0, 0, 0, 0, 0, 0, 0, 6]) (ComponentClass.pto.baseLength + 1) = some (refusal .badLength)
      ∧ fitRefusal (importOf [0, 0, 0, 0, 0, 0, 0, 0, 6]) ComponentClass.pto.baseLength = some (refusal .badImport)
      ∧ fitRefusal (importOf [1, 0, 0, 0, 0, 0, 0, 0, 6]) ComponentClass.pto.baseLength = none
      ∧ unfitRefusal [0, 2] 3 500 = some (refusal .badLength) ∧ unfitRefusal [5, 2] 4 500 = some (refusal .badSlotSpec)
      ∧ unfitRefusal [0, 8] 4 500 = some (refusal .badSlotSpec) ∧ unfitRefusal [1, 0, 5, 4] 4 500 = some (refusal .badSlotSpec)
      ∧ unfitRefusal [0, 7] 4 500 = some (refusal .noSuchSlot) ∧ unfitRefusal [1, 0, 6, 1] 4 500 = some (refusal .noSuchSlot)
      ∧ unfitRefusal [0, 2] 4 39 = some (refusal .shortSpace) ∧ unfitRefusal [1, 0, 5, 2] 4 39 = some (refusal .shortSpace) := by
  decide

theorem witness_HireOpenHandsOverTheBucket :
    let p := slipOf .hireOpen 4 104 0
    (truck.holding p).holdsSlip .hireOpen p ∧ truck.resetLow = false ∧ truck.port.mem.wf ∧ truck.journalFree
      ∧ truck.depot.state = .normal ∧ truck.hires.hire = none
      ∧ (truck.hires.bucket.bytes truck.supply.recorderTime).length = 104 + 32 * truck.hires.bucket.entries.length := by decide

/-- A hire with one component. -/
def hire1 : Hire := ⟨7, 0, .zero, [⟨2, .gearbox, 1, [0x41], 0, false⟩]⟩

set_option maxRecDepth 20000 in
theorem witness_HireCloseReturnsTheSummary :
    let p := slipOf .hireClose 0 136 0
    let s := { truck.holding p with hires := { truck.hires with hire := some hire1 } }
    s.holdsSlip .hireClose p ∧ s.resetLow = false ∧ s.port.mem.wf ∧ s.journalFree
      ∧ (hire1.bytes s.supply.recorderTime).length = 104 + 32 * hire1.entries.length
      ∧ 104 + 32 * hire1.entries.length ≤ p.outLength ∧ hire1.number < 2 ^ 32 := by decide

theorem witness_DepotInIsJudgedByItsCode :
    let p := slipOf .depotIn 4 0 0
    (truck.holding p).holdsSlip .depotIn p ∧ truck.resetLow = false ∧ truck.port.mem.wf ∧ truck.depot.lockout = false
      ∧ truck.depot.state = .normal ∧ truck.monitor.state = .armed ∧ truck.hires.hire = none
      ∧ memLe truck.port.mem 4 0x0500 = truck.tune.code
      ∧ memLe (truck.store 0x0500 [1]).port.mem 4 0x0500 ≠ truck.tune.code
      ∧ (State.inDepot truck).depot.state = .depot ∧ running.monitor.state = .running
      ∧ (truck.holding (slipOf .depotIn 3 0 0)).holdsSlip .depotIn (slipOf .depotIn 3 0 0)
      ∧ ({ truck.hires with hire := some hire1 } : HireRegister).hire = some hire1 := by decide

theorem witness_DepotIsLeft :
    let p := slipOf .depotOut 0 0 0
    ((State.inDepot truck).holding p).holdsSlip .depotOut p ∧ truck.journalFree ∧ (State.inDepot truck).live
      ∧ (State.inDepot truck).port.mem.wf ∧ (State.inDepot truck).depot.timer = .running 1800000
      ∧ (State.inDepot waiting).journal.writing ≠ none ∧ (State.inDepot held).supply.power = .hold ∧ truck.depot.state = .normal
      ∧ (let j : Journal := { truck.journal with newestSequence := 2 ^ 32 - 1 }
        j.writing = none ∧ 2 ^ 32 - 1 ≤ j.newestSequence) := by decide

/-- R157, R171: the depot timer's expiry with the newest sequence at its last sets TORN beside DEPOT. -/
theorem test_depot_timer_exhausted :
    let s := State.inDepot { truck with journal := { truck.journal with newestSequence := 2 ^ 32 - 1 } }
    (after .depotTimerExpiry s).noticeSet .torn = true ∧ (after .depotTimerExpiry s).journal.retry = .running 10000
      ∧ (after .depotTimerExpiry s).depot.state = .normal := by decide

/-- R157: a CRANK rise in ARMED and an uncranked entry to RUNNING leave DEPOT. -/
theorem witness_DepotIsLeft_automatically :
    let s := State.inDepot { truck with lines := truck.lines.set .crank ⟨true, false, some true, false⟩ }
    let fast := State.inDepot { truck with board := { truck.board with engineSpeed := freshValue 500 } }
    s.live ∧ s.supply.power = .run ∧ s.depot.state = .depot ∧ s.journalFree ∧ fast.speedAtRun
      ∧ (after (.debounceExpiry .crank) s).depot.state = .normal ∧ (after (.debounceExpiry .crank) s).monitor.state = .cranking
      ∧ (after (.debounceExpiry .crank) s).noticeSet .depot = true ∧ fast.speedHandOn.depot.state = .normal
      ∧ fast.speedHandOn.monitor.state = .running ∧ fast.speedHandOn.journal.writing.isSome = true := by decide

/-- R171: each leave with the newest sequence at its last. -/
theorem witness_DepotIsLeft_exhausted :
    let spent (s : State) : State := State.inDepot { s with journal := { s.journal with newestSequence := 2 ^ 32 - 1 } }
    let s := spent { truck with lines := truck.lines.set .crank ⟨true, false, some true, false⟩ }
    let fast := spent { truck with board := { truck.board with engineSpeed := freshValue 500 } }
    let out := (spent truck).holding (slipOf .depotOut 0 0 0)
    s.sequenceSpent ∧ fast.sequenceSpent ∧ out.sequenceSpent ∧ out.holdsSlip .depotOut (slipOf .depotOut 0 0 0)
      ∧ (after (.debounceExpiry .crank) s).port.notice = s.port.notice ||| 0x404
      ∧ (after (.debounceExpiry .crank) s).journal = s.givenUp none ∧ fast.speedHandOn.journal = fast.givenUp none
      ∧ fast.speedHandOn.port.notice = fast.port.notice ||| 0x404
      ∧ (after .depotOut out).journal = out.givenUp (some false) ∧ (after .depotOut out).port.notice = out.port.notice ||| 4 := by
  decide

theorem witness_TuneTakesItsFourSteps :
    let p := slipOf .tune 8 0 0
    let s := (State.inDepot (truck.store 0x0500 [8, 0, 0, 0, 10, 0, 0, 0])).holding p
    s.holdsSlip .tune p ∧ s.depot.state = .depot ∧ sectionOfCode (s.byteAt 0x0500).toNat = some .journal
      ∧ TuneSection.journal ∉ s.depot.tuned ∧ p.inLength = TuneSection.journal.length
      ∧ readSection s.tune s.port.mem 0x0500 .journal = some ({ s.tune with period := 60 }, 1) := by decide

/-- R21: F5 with four forward gears tuned becomes SLIPPING, its source kept, and samples of 0 are handed on; F4 stands. -/
theorem witness_TuneTakesItsFourSteps_substitution :
    let s (g : Int) : State := { running with
      tune := { running.tune with gearbox := { running.tune.gearbox with forward := 4 } }
      board := { running.board with gear := freshValue g } }
    (s 5).substituteSlipping.board.gear = { freshValue 5 with value := 13 }
      ∧ (s 5).substituteSlipping.samples = [⟨2, 0, false⟩, ⟨3, 0, false⟩] ∧ (s 4).substituteSlipping = s 4 := by decide

/-- R49: at a limit lowered to 5 a GOOD channel at 6 faults and a FAULTED one at 7 comes down to 5; one at 4 stands. -/
theorem witness_TuneTakesItsFourSteps_limit :
    let s := { truck with
      pulse := ⟨⟨0, false, 6, .good⟩, ⟨0, false, 7, .faulted⟩, ⟨0, false, 4, .good⟩, ⟨0, false, 4, .faulted⟩, true⟩ };
    (s.lowerLimit 5).pulse =
        ⟨⟨0, false, 5, .faulted⟩, ⟨0, false, 5, .faulted⟩, ⟨0, false, 4, .good⟩, ⟨0, false, 4, .faulted⟩, true⟩
      ∧ (s.lowerLimit 5).noticeSet .channel = true ∧ (s.lowerLimit 7).noticeSet .channel = false := by decide

/-- 9.4, R126, R127: an AXLE section with gate 24 and width 64 comes while a sample of 100 waits for the axle, fed before it. -/
def axleTuned : State :=
  let p := slipOf .tune 40 0 0
  { (State.inDepot (truck.store 0x0500 [6, 0, 0, 0, 24, 0, 64])).holding p with
    slots := truck.slots.set 3 (some ⟨2, [0x41], 0, 1, .axle ⟨0, ⟨0, 0, [0], none⟩⟩⟩), samples := [⟨3, 100, false⟩] }

set_option maxRecDepth 20000 in
/-- The waiting sample is closed out with the residue and is no point of the new section: the slot ends empty, nothing waits. -/
theorem witness_TuneTakesItsFourSteps_withASample :
    axleTuned.holdsSlip .tune (slipOf .tune 40 0 0) ∧ TuneSection.axle.length = 40
      ∧ (readSection axleTuned.tune axleTuned.port.mem 0x0500 .axle).isSome = true
      ∧ (after .tune axleTuned).tune.axle.gate = 24 ∧ (after .tune axleTuned).samples = []
      ∧ ((after .tune axleTuned).slotAt 3).bind (fun c => c.body.residue.map (fun r => (r.stack, r.candidate)))
        = some ([], none) := by decide

set_option maxRecDepth 20000 in
/-- R127 with a HOLD between: the FEED's sample has been fed under the old section, so the residue closed out is the one of a TUNE that
comes in RUN, and the new section starts with none. -/
theorem witness_TuneTakesItsFourSteps_inHold :
    (fallen axleTuned).holdsSlip .tune (slipOf .tune 40 0 0) ∧ (fallen axleTuned).supply.power = .hold
      ∧ ((fallen axleTuned).slotAt 3).bind (fun c => c.body.residue.map (fun r => (r.stack, r.candidate)))
        = some ([0], some ⟨100, .rising⟩)
      ∧ (after .tune (fallen axleTuned)).slots = (after .tune axleTuned).slots
      ∧ (after .tune (fallen axleTuned)).samples = [] := by decide

/-- A section at 0x0500, after its 4-byte code, read over the default tune set. -/
def sectionOf (sec : TuneSection) (fields : List Byte) : Option (TuneSet × Nat) :=
  readSection .default (truck.store 0x0504 fields).port.mem 0x0500 sec

/-- 12.9, R160, R72, R92: SUPPLY, START and ENGINE, each field at its place; a cold limit below its range and a hot window above it are
clamped and counted; stop not below run, or bands that do not rise, as written or as clamped, are refused. -/
theorem witness_TuneTakesItsFourSteps_sections :
    (sectionOf .supply [24, 1]).map (fun e => (e.1.supply, e.2)) = some (⟨.v24, .dip⟩, 0)
      ∧ sectionOf .supply [13, 0] = none ∧ sectionOf .supply [12, 2] = none
      ∧ (sectionOf .start [0x90, 1, 0xC8, 0, 10, 0, 0xD0, 7, 0x59, 2, 0xD7, 0xFF, 2]).map (fun e => (e.1.start, e.2)) =
        some (⟨400, 200, 10, 2000, 600, -40, false, true⟩, 2)
      ∧ sectionOf .start [0x90, 1, 0x90, 1] = none ∧ sectionOf .start [0xD2, 0, 0xC8, 0] ≠ none
      ∧ sectionOf .start [0x20, 3, 0xBC, 2] ≠ none ∧ sectionOf .start [0x2C, 1, 0x2C, 1] = none
      ∧ (sectionOf .engine [0xE8, 3, 0xDC, 5, 0xD0, 7, 0xEC, 0xFF, 60, 0, 120, 0, 0x20, 3, 0xC4, 9, 0x89, 0x13]).map
        (fun e => (e.1.engine, e.2)) = some (⟨1000, 1500, 2000, -20, 60, 120, 800, 2500, 5000⟩, 1)
      ∧ sectionOf .engine [0xE8, 3, 0x40, 0x1F, 0x41, 0x1F, 0xEC, 0xFF, 60, 0, 120, 0, 0x20, 3, 0xC4, 9, 0x88, 0x13] = none := by
  decide

/-- The twelve forward ratios 2048, 2040, 100, 40, ... of a GEARBOX section with `forward` gears, two reverse gears of 63 and 2048. -/
def gearSection (forward : Byte) : Option (TuneSet × Nat) :=
  sectionOf .gearbox ([forward, 2, 3, 65, 0x00, 0x01, 0x00, 0x08, 0xF8, 0x07, 100, 0, 40, 0] ++ List.replicate 16 0
    ++ [63, 0, 0x00, 0x08] ++ [0xFF, 0xFF, 7])

set_option maxRecDepth 20000 in
/-- R33, R160: GEARBOX, AXLE and PULSE. With two gears tuned the later ratios are kept as written and not counted; with no forward
gear, or ratios that do not fall, the section is refused. -/
theorem witness_TuneTakesItsFourSteps_gears :
    (gearSection 2).map (fun e => (e.1.gearbox.forwardRatios.take 4, e.1.gearbox.reverseRatios, e.1.gearbox.cycle.gate, e.2)) =
        some ([2047, 2040, 100, 40], [64, 2047], 64, 4)
      ∧ (gearSection 2).map (fun e => (e.1.gearbox.cycle.width, e.1.gearbox.cycle.weights.take 3)) = some (256, [65535, 7, 0])
      ∧ (gearSection 4).map (fun e => (e.1.gearbox.forwardRatios.take 4, e.2)) = some ([2047, 2040, 100, 64], 5)
      ∧ gearSection 0 = none ∧ gearSection 13 = none
      ∧ (sectionOf .axle [0, 0, 1, 1, 0, 0, 9]).map (fun e => (e.1.axle.gate, e.1.axle.width, e.1.axle.weights.take 2, e.2)) =
        some (1, 256, [0, 9], 2)
      ∧ (sectionOf .pulse [60, 241, 0, 240, 0]).map (fun e => (e.1.pulse, e.2)) = some (⟨60, 240, 0, 240, 1⟩, 2) := by decide

theorem witness_LinesAreDebounced :
    (truck.powered = true ∧ (truck.lines.get .clutch).starting = false ∧ true ≠ (truck.lines.get .clutch).level)
      ∧ ((State.reset.lines.get .reverse).starting = true ∧ (State.reset.lines.get .ign).starting = true)
      ∧ ({ held with lines := held.lines.set .clutch ⟨true, false, some true, false⟩ }.lines.get .clutch).pendingLevel
        = some true := by decide

/-- A part just powered with IGN active, only its CRANK level still to be given. -/
def starting : State :=
  let line : LineState := ⟨false, false, none, false⟩
  { State.reset with
    lines := ⟨⟨true, true, none, false⟩, .powerOn false, line, line⟩, monitor := { State.reset.monitor with state := .armed } }

/-- The starting levels of IGN and of the last line, with what comes of them. -/
theorem witness_LinesAreDebounced_atStart :
    (State.reset.live ∧ State.reset.port.mem.wf ∧ State.reset.monitor.state = .off ∧ State.reset.speedBelowRun
        ∧ State.reset.lines.ign.raw = false)
      ∧ (starting.supply.started = false ∧ starting.sensor = ⟨.off, 0, .stopped, .stopped⟩ ∧ starting.supply.doze = .stopped
        ∧ starting.journal.period = .stopped ∧ (starting.lines.get .crank).starting = true
        ∧ (starting.lines.get .ign).starting = false)
      ∧ (after (.startingLevel .crank) starting).sensor.state = .on
      ∧ (after (.startingLevel .crank) starting).pulse.windows = true := by decide

/-- R166: a part that has gone to DOZE before its last starting level enters RUN with it, or with an active IGN; in HOLD, entered from
DOZE, an active IGN sets the prior state to RUN. -/
theorem witness_LinesAreDebounced_atStartInDoze :
    (let s := { starting with supply := { starting.supply with power := .doze } };
      s.live ∧ s.port.mem.wf ∧ s.supply.power ≠ .hold ∧ (after (.startingLevel .crank) s).supply.power = .run
        ∧ (after (.startingLevel .crank) s).pulse.windows = true)
      ∧ (let s := { State.reset with
            supply := { State.reset.supply with power := .doze }, lines := State.reset.lines.set .ign (.powerOn true) };
        ((after (.startingLevel .ign) s).supply.power, (after (.startingLevel .ign) s).monitor.state) = (.run, .armed))
      ∧ (let s := { State.reset with
            supply := { State.reset.supply with power := .hold, prior := .doze }
            lines := State.reset.lines.set .ign (.powerOn true) };
        s.live ∧ s.lines.ign.starting = true
          ∧ ((after (.startingLevel .ign) s).supply.prior, (after (.startingLevel .ign) s).monitor.state) = (.run, .off)) := by
  decide

/-- An IGN rise about to be delivered. -/
def rising (s : State) : State := { s with lines := s.lines.set .ign ⟨true, false, some true, false⟩ }

/-- In DOZE with the lockout set. -/
def dozing : State :=
  { State.reset with
    supply := { State.reset.supply with power := .doze, started := true }, depot := ⟨.normal, 3, true, [], .stopped⟩
    journal := { State.reset.journal with period := .frozen 5000 } }

/-- An IGN rise in RUN, HOLD and DOZE, with what comes of it. -/
theorem witness_LinesAreDebounced_atAnIgnRise :
    ((rising State.reset).live ∧ (rising State.reset).port.mem.wf ∧ (rising State.reset).lines.ign.pendingLevel = some true
        ∧ (rising held).supply.power = .hold ∧ (after (.debounceExpiry .ign) (rising held)).supply.prior = .run)
      ∧ ((rising dozing).supply.power = .doze ∧ (rising dozing).monitor.state = .off ∧ (rising dozing).speedBelowRun
        ∧ (rising dozing).sensor = ⟨.off, 0, .stopped, .stopped⟩ ∧ (rising dozing).supply.doze = .stopped
        ∧ (rising dozing).journal.period = .frozen 5000)
      ∧ (after (.debounceExpiry .ign) (rising dozing)).supply.power = .run
      ∧ (after (.debounceExpiry .ign) (rising dozing)).depot.lockout = false
      ∧ (after (.debounceExpiry .ign) (rising dozing)).monitor.state = .armed := by decide

/-- In RUN with CLUTCH and REVERSE wired, a change of both about to be delivered. -/
def wired (s : State) (input : Int) : State :=
  { s with
    tune := { s.tune with start := { s.tune.start with clutchWired := true, reverseWired := true } }
    lines := (s.lines.set .clutch ⟨true, false, some true, false⟩).set .reverse ⟨true, false, some true, false⟩
    board := { s.board with inputSpeed := freshValue input, outputSpeed := freshValue 100 } }

/-- R29, R34, R41: a CLUTCH change is presented with source LINE, hands a sample of 0 to each slot, and then N is derived; a REVERSE
change derives REV1 (r 883) and, with a forward ratio, SLIPPING; unwired neither does anything. -/
theorem witness_LinesAreDebounced_inRun :
    (let t := after (.debounceExpiry .clutch) (wired running 2000);
      t.board.clutch = ⟨1, .fresh, .line, some 0, .running 0⟩ ∧ t.board.gear.value = 0 ∧ t.board.gear.source = .derived
        ∧ t.samples.map (·.value) = [0, 0, 0, 0])
      ∧ (after (.debounceExpiry .reverse) (wired running 1380)).board.gear.value = -1
      ∧ (after (.debounceExpiry .reverse) (wired running 100)).board.gear.value = 13
      ∧ (let plain := { running with lines := (wired running 100).lines };
        (after (.debounceExpiry .clutch) plain).board = running.board ∧ (after (.debounceExpiry .reverse) plain).board = running.board)
      ∧ (wired running 100).board.derivationDue ∧ ¬ running.board.derivationDue := by decide

theorem witness_CrankRiseBeginsAnAttempt :
    let s := { truck with lines := truck.lines.set .crank ⟨true, false, some true, false⟩ }
    s.live ∧ s.port.mem.wf ∧ s.supply.power = .run ∧ s.tune.supply.crankSource = .line ∧ s.monitor.state = .armed
      ∧ s.depot.state = .normal ∧ s.lines.crank.pendingLevel = some true ∧ s.speedBelowRun ∧ running.speedAtRun
      ∧ s.supply.dipped = false ∧ s.supply.filter = .stopped ∧ s.journalFree ∧ s.tune.start.stop ≤ s.tune.start.run
      ∧ s.duty.window = none ∧ s.lines.ign.level = true := by decide

/-- A part in a start state, IGN and CRANK about to fall, with the engine's speed known. -/
def startState (st : StartState) (caught : Bool) (rpm : Int) : State :=
  { truck with
    monitor := { truck.monitor with
      state := st, caught := caught, firstReading := false, evidence := if st = .cranking then some .line else none }
    lines := (truck.lines.set .crank ⟨false, true, some false, false⟩).set .ign ⟨false, true, some false, false⟩
    board := { truck.board with engineSpeed := freshValue rpm } }

/-- Each state's start counts and state after a command. -/
def started (t : State) : Option StartCounts × StartState :=
  ((t.slotAt 1).bind (fun c => match c.body with
    | .engine b => some b.starts
    | _ => none), t.monitor.state)

/-- R76 to R82: the end of the evidence, an IGN fall, and a hand-on, in each state they act on. -/
theorem witness_CrankRiseBeginsAnAttempt_andItsEnds :
    (started (after (.debounceExpiry .crank) (startState .cranking true 400)) = (some ⟨0, 1, 0, 0⟩, .running)
        ∧ (after (.debounceExpiry .crank) (startState .cranking true 150)).monitor.stopTimer = .running 1000
        ∧ started (after (.debounceExpiry .crank) (startState .cranking false 400)) = (some ⟨0, 0, 0, 0⟩, .catching))
      ∧ (started (after (.debounceExpiry .ign) (startState .cranking false 0)) = (some ⟨0, 0, 0, 0⟩, .off)
        ∧ (after (.debounceExpiry .ign) (startState .armed false 0)).journal.writing.isSome = true
        ∧ started (after (.debounceExpiry .ign) (startState .running false 900)) = (some ⟨0, 0, 0, 0⟩, .running))
      ∧ started (startState .armed false 500).speedHandOn = (some ⟨0, 0, 0, 1⟩, .running)
      ∧ started (startState .armed false 499).speedHandOn = (some ⟨0, 0, 0, 0⟩, .armed)
      ∧ started (startState .catching false 500).speedHandOn = (some ⟨0, 1, 0, 0⟩, .running)
      ∧ (startState .cranking false 500).speedHandOn.monitor.caught = true
      ∧ (started { startState .off false 500 with
          monitor := { truck.monitor with state := .off, firstReading := true } }.speedHandOn) = (some ⟨0, 0, 0, 0⟩, .running) := by
  decide

theorem witness_PulseWindowsCountAndEnd :
    (truck.live ∧ truck.pulse.windows = true ∧ State.reset.pulse.windows = false ∧ truck.tune.pulse.teeth .p3 = 0)
      ∧ { truck.tune.pulse with teeth3 := 240 }.teeth3 ≠ 0 ∧ truck.pulse.p3.health = .good ∧ truck.pulse.p3.edges ≤ 2000
      ∧ truck.pulse.p3.mark = false ∧ (ChannelState.mk 2001 false 7 .good).counter + 1 = truck.tune.pulse.limit := by decide

/-- A shaft at an input speed, the output's window at 100 edges, 1000 rpm; the torque FRESH. -/
def geared (input : Int) (clutch : Int) : State :=
  { truck with
    pulse := { truck.pulse with p2 := ⟨100, false, 0, .good⟩ }
    board := { truck.board with
      inputSpeed := freshValue input, clutch := freshValue clutch, engineTorque := freshValue 50, gear := freshValue 5 } }

/-- GEAR and its source after the output's window. -/
def derivedAfter (s : State) : Int × Source :=
  let g := (after (.windowEnd .p2) s).board.gear
  (g.value, g.source)

/-- R30, R31, R34: F5 (r 360) of a window end at 5625 rpm; SLIPPING between ratios, N with the clutch DEPRESSED; a change is handed
on; with the input UNKNOWN the gear stands. -/
theorem witness_PulseWindowsCountAndEnd_deriveTheGear :
    derivedAfter (geared 5625 0) = (5, .derived) ∧ derivedAfter (geared 5000 0) = (13, .derived)
      ∧ derivedAfter (geared 5000 1) = (0, .derived)
      ∧ (after (.windowEnd .p2) (geared 5625 0)).samples = [] ∧ (after (.windowEnd .p2) (geared 5000 0)).samples.length = 2
      ∧ truck.tune.gearbox.forward ≤ truck.tune.gearbox.forwardRatios.length
      ∧ derivedAfter { geared 5625 0 with board := { (geared 5625 0).board with inputSpeed := .unknown } } = (5, .frame) := by decide

/-- A part whose P0, P1 and P2 saw no edge while frames vouch for their quantities, each shadow of an age; REVERSE and CLUTCH known. -/
def silent (quanta : Nat) : State :=
  { running with
    board := { running.board with
      clutch := freshValue 0, shadowEngine := some ⟨501, 0, quanta⟩, shadowOutput := some ⟨201, 0, quanta⟩
      shadowGear := some ⟨3, 0, quanta⟩ } }

/-- R44, R45, R47: the zero-count tests of P0, P1 and P2; P0's speed reaches the monitor and CLUTCH is presented after it; a FAULTED
channel applies none. -/
theorem witness_PulseWindowsCountAndEnd_judge :
    (after (.windowEnd .p0) (silent 4)).pulse.p0.counter = 1 ∧ (after (.windowEnd .p1) (silent 4)).pulse.p1.counter = 1
      ∧ (after (.windowEnd .p2) (silent 4)).pulse.p2.counter = 1 ∧ (after (.windowEnd .p3) (silent 4)).pulse.p3.counter = 0
      ∧ (after (.windowEnd .p0) (silent 6)).pulse.p0.counter = 0 ∧ (after (.windowEnd .p1) (silent 6)).pulse.p1.counter = 0
      ∧ (let s := wired { truck with
          monitor := { truck.monitor with firstReading := false }
          pulse := { truck.pulse with p0 := ⟨200, false, 0, .good⟩ } } 0;
        (after (.windowEnd .p0) s).board.engineSpeed.value = 1000 ∧ (after (.windowEnd .p0) s).monitor.state = .running
          ∧ (after (.windowEnd .p0) s).board.clutch.source = .line)
      ∧ (let s := { truck with pulse := { truck.pulse with p0 := ⟨50, false, 3, .good⟩ } }
        s.tune.start.clutchWired = false ∧ 250 < s.tune.start.run ∧ (after (.windowEnd .p0) s).board.engineSpeed.value = 250
          ∧ (after (.windowEnd .p0) s).monitor = { s.monitor with firstReading := false })
      ∧ (let s := { truck with pulse := { truck.pulse with p0 := ⟨200, false, 3, .faulted⟩ } };
        (after (.windowEnd .p0) s).board.engineSpeed.age = .unknown ∧ (after (.windowEnd .p0) s).pulse.p0.counter = 2) := by decide

/-- The judgement's terms at those states: no shadow stands at the tie. -/
theorem witness_PulseWindowsCountAndEnd_untied : (silent 4).board.untied ∧ (silent 4).contradicted .p0 ∧ (silent 4).windowBad .p0 := by
  refine ⟨?_, ⟨_, rfl, by decide, by decide⟩, by decide, .inr (.inr ⟨rfl, _, rfl, by decide, by decide⟩)⟩
  intro h hh
  rcases hh with hh | hh | hh <;> cases hh <;> decide

theorem witness_SensorSupplyMoves :
    truck.sensor.state = .on ∧ (truck.pulse.get .p0).health = .good ∧ truck.sensorOutput = true
      ∧ State.reset.sensorOutput = false
      ∧ (Sensor.mk .trial 3 .stopped (.running 50)).retry ≠ 4 ∧ (Sensor.mk .trial 4 .stopped (.running 50)).retry = 4
      ∧ (Sensor.mk .shorted 0 (.running 2000) .stopped).offTimer = .running 2000 ∧ State.reset.sensor.state = .off := by decide

theorem witness_RecordsAge :
    running.live ∧ running.port.mem.wf ∧ (running.board.get .engineTorque).age = .fresh
      ∧ (({ running with board := { running.board with coolantTemp := ⟨70, .held, .frame, some 0, .running 600⟩ } } :
        State).board.get .coolantTemp).age = .held ∧ (running.board.get .ptoSpeed).age = .unknown := by decide

/-- R22, R34, R80, R110: what a HELD CLUTCH, GEAR or ENGINE_SPEED that becomes UNKNOWN hands on. -/
theorem witness_RecordsAge_handOns :
    let aged (q : Quantity) : State :=
      { running with board := running.board.set q { (running.board.get q) with age := .held } }
    let off (s : State) : State := { s with lines := s.lines.set .ign ⟨false, false, none, false⟩ }
    (∀ q : Fin 8, ((aged (allQuantities.getD q .gear)).board.get (allQuantities.getD q .gear)).age = .held)
      ∧ (after (.heldTimerExpiry .clutch) (aged .clutch)).samples = [⟨2, 120, false⟩, ⟨3, 135, false⟩]
      ∧ (after (.heldTimerExpiry .gear) (aged .gear)).samples = [⟨2, 0, false⟩, ⟨3, 0, false⟩]
      ∧ (after (.heldTimerExpiry .gear) (aged .gear)).noticeSet .quantity = true
      ∧ (after (.heldTimerExpiry .engineSpeed) (aged .engineSpeed)).monitor.stopTimer = .stopped
      ∧ (after (.heldTimerExpiry .engineSpeed) (off (aged .engineSpeed))).monitor.state = .off
      ∧ (after (.heldTimerExpiry .engineSpeed) { aged .engineSpeed with supply := held.supply }).monitor = running.monitor := by
  decide

theorem witness_MonitorTimersExpire :
    (truck.live ∧ truck.port.mem.wf ∧ truck.board.engineSpeed.age = .unknown)
      ∧ (let m : Monitor := { truck.monitor with state := .cranking, crankTimer := .running 10000 }
        m.longMark = false)
      ∧ (let m : Monitor := { truck.monitor with state := .catching, catchTimer := .running 0 }
        m.catchTimer = .running 0)
      ∧ running.monitor.stopTimer = .running 1000 ∧ running.duty.window = none ∧ running.lines.ign.level = true
      ∧ running.journalFree := by decide

/-- R78: an attempt that has caught, at the run threshold, counts its long crank too. -/
theorem test_long_crank_after_the_catch :
    let s := { running with monitor := { running.monitor with state := .cranking, caught := true, crankTimer := .running 10000 } }
    s.speedAtRun ∧ (after .longCrank s).noticeSet .abuse = true ∧ (after .longCrank s).monitor.longMark = true := by decide

theorem witness_QuantumIsMeteredByTheStartState :
    (truck.powered = true ∧ truck.supply.power = .run ∧ truck.duty.quantumTimer = .running 0 ∧ truck.monitor.state = .armed)
      ∧ (running.monitor.state = .running ∧ running.duty.quantumTimer = .running 0
        ∧ running.board.engineSpeed.age ≠ .unknown
        ∧ running.board.engineSpeed.value ≤ running.tune.engine.overspeed ∧ running.duty.overspeedArmed = true
        ∧ running.duty.overspeedCount = none ∧ running.board.ptoSpeed.age = .unknown
        ∧ running.board.inputSpeed.age = .unknown ∧ running.duty.lastClutch ≠ some true ∧ running.duty.window = none)
      ∧ running.tune.legal := ⟨by decide, by decide, default_legal⟩

/-- The running truck with a CLUTCH fitted, its input shaft known, and its duty meter. -/
def metered (input : Int) (clutch : Int) (duty : Duty) : State :=
  { running with
    slots := running.slots.set 4 (some (fresh .clutch 1)), duty := duty
    board := { running.board with inputSpeed := freshValue input, clutch := freshValue clutch, ptoSpeed := freshValue 101 } }

/-- The CLUTCH record's counters. -/
def clutchOf (s : State) : Option ClutchBody :=
  (s.slotAt 4).bind (fun c => match c.body with
    | .clutch b => some b
    | _ => none)

/-- Each table of steps 4 to 7 has a state it acts on (R96 to R104); 6.12.1's first quantum is 11,309 J with 9,409 over. -/
theorem witness_QuantumIsMeteredByTheStartState_step4to7 :
    let s := metered 300 0 { running.duty with lastClutch := some true }
    (clutchOf s.meterSlip = some ⟨0, 0, 11309, 9409⟩ ∧ s.quantumJoules = 11309 ∧ findSlot s.slots .clutch 1 = some 4)
      ∧ (s.meterWindow 5).duty.window = some ⟨5, 0, 0⟩ ∧ (clutchOf (s.meterWindow 5)).map (·.engagements) = some 1
      ∧ (let w := metered 300 0 { running.duty with window := some ⟨60000, 48, 0⟩ }
        (w.meterWindow 1).duty.window = some ⟨60001, 49, 0⟩)
      ∧ (let w := metered 1190 0 { running.duty with window := some ⟨60000, 9, 4⟩ }
        (w.meterWindow 1).duty.window = none ∧ (w.meterWindow 1).noticeSet .abuse = true
          ∧ (w.meterWindow 0).noticeSet .abuse = false ∧ w.dutyLeavesRunning.duty.window = none)
      ∧ s.meterPto.duty.ptoAbove = true ∧ running.meterSlip = running
      ∧ (let fast := { running with
          board := { running.board with engineSpeed := freshValue 2501 }, duty := { running.duty with overspeedCount := some 9 } }
        fast.meterOverspeed.noticeSet .abuse = true ∧ fast.meterOverspeed.duty.overspeedArmed = false)
      ∧ (let shifted := { running with duty := { running.duty with lastGear := some 2 } }
        shifted.dutyGear.duty.lastGear = some 3 ∧ shifted.board.gear.value = 3) := by decide

theorem witness_BatteryActsOnLevelsAndTimers :
    truck.powered = true ∧ truck.tune.supply.voltage = .v12 ∧ truck.supply.dipped = false
      ∧ truck.tune.supply.crankSource = .line ∧ truck.monitor.evidence ≠ some .dip ∧ truck.supply.power ≠ .hold
      ∧ truck.supply.armed = true ∧ truck.supply.filter = .stopped ∧ held.supply.power = .hold ∧ truck.live
      ∧ truck.journalFree ∧ ({ truck.supply with filter := .running 400 } : Supply).filter = .running 400 := by decide

theorem witness_HoldIsEnteredAndLeft :
    (truck.live ∧ truck.port.mem.wf ∧ truck.supply.power ≠ .hold ∧ truck.tune.supply.voltage = .v12)
      ∧ (let s := { State.reset with
          supply := ⟨.hold, .run, false, true, .stopped, .stopped, .running 250, .frozen 20000, 0, 9000, true⟩
          journal := { State.reset.journal with period := .frozen 100000 } }
        s.live ∧ s.port.mem.wf ∧ s.supply.power = .hold ∧ s.supply.prior = .run ∧ s.supply.dwell = .running 250
          ∧ s.supply.doze = .frozen 20000 ∧ s.journal.period = .frozen 100000 ∧ s.supply.armed = true
          ∧ s.tune.supply.voltage = .v12 ∧ 9000 ≤ s.supply.battery ∧ s.monitor.state = .off ∧ s.monitor.heldCrank = false
          ∧ s.monitor.catchTimer = .stopped ∧ s.monitor.stopTimer = .stopped ∧ s.lines.ign.level = false
          ∧ s.board.engineSpeed.age = .unknown ∧ s.sensor.state = .off ∧ s.sensor.retry = 0
          ∧ s.journal.another = false ∧ s.journal.waiting = none) := by decide

/-- A part just out of HOLD in a start state, with its speed, its IGN level and its timers. -/
def released (m : Monitor) (rpm : Int) (ign : Bool) : State :=
  { truck with
    monitor := { m with lastStop := none }, lines := truck.lines.set .ign ⟨ign, ign, none, false⟩
    board := { truck.board with engineSpeed := freshValue rpm } }

/-- A crank that HOLD cut. -/
def cutCrank (caught : Bool) : Monitor := { Monitor.powerOn with state := .catching, heldCrank := true, caught := caught, firstReading := false }

/-- R85, case by case; at the exit the warning (R164) and the checkpoint (R165). -/
theorem witness_HoldIsEnteredAndLeft_theSteps :
    (started (released (cutCrank true) 100 true).monitorLeaveHold = (some ⟨0, 1, 0, 0⟩, .running)
        ∧ (released (cutCrank true) 100 true).monitorLeaveHold.monitor.stopTimer = .running 1000
        ∧ (released (cutCrank false) 100 true).monitorLeaveHold.monitor.catchTimer = .running 2000
        ∧ started (released (cutCrank false) 500 true).monitorLeaveHold = (some ⟨0, 1, 0, 0⟩, .running)
        ∧ (released (cutCrank false) 100 false).monitorLeaveHold.monitor.state = .off)
      ∧ (let caught := { cutCrank false with heldCrank := false, catchTimer := .frozen 700 };
        (released caught 100 true).monitorLeaveHold.monitor.catchTimer = .running 700)
      ∧ (let runs := { cutCrank false with state := .running, heldCrank := false, stopTimer := .frozen 300 };
        (released runs 100 false).monitorLeaveHold.monitor.stopTimer = .running 300
          ∧ (released runs 900 true).monitorLeaveHold.monitor.stopTimer = .stopped
          ∧ ({ released runs 0 false with board := .powerOn }.monitorLeaveHold).monitor.state = .off
          ∧ ({ released runs 0 true with board := .powerOn }.monitorLeaveHold).monitor.state = .running)
      ∧ (released Monitor.powerOn 100 true).monitorLeaveHold.monitor.state = .armed
      ∧ (released { Monitor.powerOn with state := .armed } 100 false).monitorLeaveHold.monitor.state = .off
      ∧ ({ truck with supply := { truck.supply with battery := 8999 } }.rejudgeWarning).supply.filter = .running 0
      ∧ ({ truck with supply := { truck.supply with armed := false } }.rejudgeWarning).supply.rearm = .running 1000
      ∧ ({ truck with journal := { truck.journal with another := true } }.journalLeaveHold).journal.writing.isSome = true := by decide

/-- R165, R166: prior state DOZE. -/
theorem witness_HoldIsEnteredAndLeft_toDoze :
    let s := { State.reset with
      supply := ⟨.hold, .doze, false, true, .stopped, .stopped, .running 250, .stopped, 0, 9000, true⟩
      board := { State.reset.board with coolantTemp := freshValue 70 } }
    s.live ∧ s.port.mem.wf ∧ s.supply.prior = .doze ∧ (after .restartDwellExpiry s).supply.power = .doze
      ∧ (after .restartDwellExpiry s).noticeSet .quantity = true ∧ (after .restartDwellExpiry s).byteAt 0x04 = 1 := by decide

theorem witness_DozeTimerExpires :
    let s := { State.reset with supply := { State.reset.supply with doze := .running 0 } }
    s.live ∧ s.port.mem.wf ∧ s.supply.power = .run ∧ s.supply.doze = .running 0 ∧ s.lines.ign.level = false
      ∧ s.monitor.state = .off ∧ s.board.ptoSpeed.age = .unknown ∧ (freshValue 101).age ≠ .unknown
      ∧ (running.board.get .gear).age ≠ .unknown ∧ (∀ i : Fin 8, (s.board.get (allQuantities.getD i .gear)).age = .unknown)
      ∧ 100 < (freshValue 101).value ∧ (freshValue 100).value ≤ 100 := by decide

/-- R6, R166: a sample that waits is taken at its slot before the part enters DOZE. -/
theorem witness_DozeTimerExpires_withASample :
    let s := { truck with
      lines := truck.lines.set .ign ⟨false, false, none, false⟩, monitor := { truck.monitor with state := .off }
      supply := { truck.supply with doze := .running 0 }, samples := [⟨2, 9, false⟩] }
    (after .dozeTimerExpiry s).supply.power = .doze ∧ (after .dozeTimerExpiry s).samples = []
      ∧ ((after .dozeTimerExpiry s).slotAt 2).bind (fun c => c.body.residue.map (·.stack)) = some [9] := by decide

theorem witness_RecorderTimeAdvances : truck.live ∧ truck.port.mem.wf := by decide

/-- R27: a shadow keeps its value and time of arrival while recorder time advances. -/
theorem test_shadow_ages :
    (after .recorderTimeAdvance { truck with board := { truck.board with shadowGear := some ⟨3, 7, 0⟩ } }).board.shadowGear.map
      (fun h => (h.value, h.arrivedAt)) = some (3, 7) := by decide

theorem witness_JournalTimersStartCheckpoints :
    truck.live ∧ truck.supply.power = .run ∧ truck.journal.period = .running 600000 ∧ truck.journalFree
      ∧ waiting.journal.writing ≠ none ∧ waiting.journal.period = .running 600000
      ∧ (let j : Journal := { truck.journal with retry := .running 0, newestSequence := 2 ^ 32 - 1 }
        j.retry = .running 0 ∧ j.writing = none ∧ j.newestSequence = 2 ^ 32 - 1) := by decide

theorem witness_PageWriteEnds :
    truck.journal.writing = none ∧ waiting.live ∧ waiting.port.mem.wf
      ∧ (let j : Journal := { waiting.journal with waiting := none }
        j.waiting ≠ some true ∧ j.another = false ∧ j.writing = some ⟨0, 1, false, truck.snapshot⟩)
      ∧ truck.snapshot.recorderTime < 2 ^ 40 := by decide

theorem witness_VerifiedPageReleasesTheSlip :
    waiting.live ∧ waiting.port.mem.wf ∧ waiting.ringLegal ∧ waiting.journal.another = false
      ∧ waiting.journal.waiting = some true ∧ waiting.scanner.state = .waitSave
      ∧ waiting.scanner.held = some ⟨slipOf .fit 20 0 0, 3, 0⟩ ∧ waiting.scanner.nudgePending = false
      ∧ (slipOf .fit 20 0 0).referencesGood = true ∧ waiting.ownedByDevice (waiting.nextCursor false) = false := by decide

theorem witness_PinResetClearsThePort :
    truck.powered = true ∧ truck.resetLow = false ∧ inReset.powered = true ∧ inReset.resetLow = true ∧ inReset.port.mem.wf := by
  decide

/-- A part without supply that has a whole page 3 with sequence 7 and a torn page 4 with sequence 8. -/
def unpoweredPart : State :=
  (truck.withJournal { truck.journal with pages := (truck.journal.pages.set 3 (.whole 7 truck.snapshot)).set 4 (.torn 8) }).unpowered

theorem witness_PowerIsLostAndRestored :
    truck.powered = true ∧ unpoweredPart.powered = false ∧ unpoweredPart.journal.pages[3]? = some (.whole 7 truck.snapshot)
      ∧ unpoweredPart.journal.pages[4]? = some (.torn 8)
      ∧ (∀ j : Fin 64, j ≠ 3 → ∀ m d, unpoweredPart.journal.pages[j.val]? = some (.whole m d) → m < 7)
      ∧ State.reset.unpowered.powered = false := by
  refine ⟨rfl, rfl, rfl, rfl, ?_, rfl⟩
  intro j hj m d h
  have : j.val ≠ 3 := fun e => hj (Fin.ext e)
  simp [unpoweredPart, State.unpowered, State.withJournal, List.getElem?_set, truck, settled, State.reset, Journal.factory,
    List.getElem?_replicate] at h
  split at h
  · simp at h
  · split at h
    · omega
    · simp at h

set_option maxRecDepth 20000 in
/-- R162 to R165: power-on at 5.9 V, 8.9 V, 9 V and 10.5 V on a 12 V system: HOLD, the filter, the dipped flag; and the control block. -/
theorem witness_PowerIsLostAndRestored_atLowBattery :
    let s := State.reset.unpowered
    let at_ (mv : Nat) : State := after (.powerOn true false false true mv) s
    s.powered = false ∧ s.tune.supply.voltage = .v12
      ∧ ((at_ 5999).supply.power = .hold ∧ (at_ 5999).supply.prior = .run ∧ (at_ 5999).supply.filter = .stopped
        ∧ (at_ 5999).supply.dipped = true ∧ (at_ 5999).noticeSet .hold = true ∧ (at_ 5999).byteAt 0x04 = 2)
      ∧ ((at_ 6000).supply.power = .run ∧ (at_ 8999).supply.filter = .running 0 ∧ (at_ 9000).supply.filter = .stopped
        ∧ (at_ 10499).supply.dipped = true ∧ (at_ 10500).supply.dipped = false ∧ (at_ 10499).monitor = .powerOn)
      ∧ (at_ 12600).byteAt 0x00 = 0x16 ∧ (at_ 12600).byteAt 0x0B = 1 ∧ (at_ 12600).byteAt 0x0C = 2
      ∧ (at_ 12600).byteAt 0x0D = 0 ∧ (at_ 12600).byteAt 0x0500 = 0 := by decide

end Sys2Proof.Tests
end

section
/-!
Rounding half away from zero (0.5.5) and the scaled value of a route (R65). `roundHalfAway` rounds the magnitude and then puts the
sign back, so its facts are facts about the magnitudes, and those follow from the two bounds of one natural division.
-/
namespace Sys2Proof.Proofs
open Sys2Proof.Machine

/-! ### `roundHalfAway` -/

/-- The magnitude is rounded as a natural number, whatever the sign. -/
theorem natAbs_roundHalfAway (num : Int) (den : Nat) :
    (roundHalfAway num den).natAbs = (2 * num.natAbs + den) / (2 * den) := by
  unfold roundHalfAway
  split
  · exact Int.natAbs_neg _
  · rfl

theorem roundHalfAway_nonpos_of_neg {num : Int} (h : num < 0) (den : Nat) : roundHalfAway num den ≤ 0 := by
  simp only [roundHalfAway, if_pos h]
  exact neg_nonpos.mpr (Int.natCast_nonneg _)

theorem roundHalfAway_nonneg_of_nonneg {num : Int} (h : 0 ≤ num) (den : Nat) : 0 ≤ roundHalfAway num den := by
  simp only [roundHalfAway, if_neg (not_lt.mpr h)]
  exact Int.natCast_nonneg _

/-- The magnitude of the result, times `den`, lies above the exact magnitude by at most a half of `den` and below it by less than a
half: the tie is on the upper side alone. -/
theorem natAbs_roundHalfAway_mul_bounds (num : Int) {den : Nat} (hden : 0 < den) :
    2 * (roundHalfAway num den * den).natAbs ≤ 2 * num.natAbs + den
      ∧ 2 * num.natAbs < 2 * (roundHalfAway num den * den).natAbs + den := by
  have hmul : 2 * (roundHalfAway num den * den).natAbs = 2 * den * ((2 * num.natAbs + den) / (2 * den)) := by
    rw [Int.natAbs_mul, natAbs_roundHalfAway, Int.natAbs_natCast]
    ring
  have hlow := Nat.mul_div_le (2 * num.natAbs + den) (2 * den)
  have hhigh := Nat.lt_mul_div_succ (2 * num.natAbs + den) (by omega : 0 < 2 * den)
  rw [Nat.mul_add] at hhigh
  omega

/-- The result never lies on the other side of zero, so the error is the distance of the two magnitudes. -/
theorem natAbs_roundHalfAway_mul_sub (num : Int) (den : Nat) :
    (roundHalfAway num den * den - num).natAbs
      = (((roundHalfAway num den * den).natAbs : Int) - num.natAbs).natAbs := by
  rcases lt_or_ge num 0 with hneg | hnonneg
  · have hle : roundHalfAway num den * den ≤ 0 :=
      mul_nonpos_of_nonpos_of_nonneg (roundHalfAway_nonpos_of_neg hneg den) (Int.natCast_nonneg den)
    omega
  · have hge : 0 ≤ roundHalfAway num den * den :=
      mul_nonneg (roundHalfAway_nonneg_of_nonneg hnonneg den) (Int.natCast_nonneg den)
    omega

/-- No integer is nearer to `num / den`. -/
theorem roundHalfAway_nearest (num : Int) {den : Nat} (hden : 0 < den) :
    2 * (roundHalfAway num den * den - num).natAbs ≤ den := by
  have ⟨hupper, hlower⟩ := natAbs_roundHalfAway_mul_bounds num hden
  rw [natAbs_roundHalfAway_mul_sub]
  omega

/-- A half goes away from zero. -/
theorem roundHalfAway_tie_away (num : Int) {den : Nat} (hden : 0 < den)
    (htie : 2 * (roundHalfAway num den * den - num).natAbs = den) :
    num.natAbs < (roundHalfAway num den * den).natAbs := by
  have ⟨_, hlower⟩ := natAbs_roundHalfAway_mul_bounds num hden
  rw [natAbs_roundHalfAway_mul_sub] at htie
  omega

/-! ### The scaled value (R65) -/

/-- Settles O31: a route's scaled value is `roundHalfAway` of the whole expression over the divisor. -/
theorem scalingRoundsHalfAwayFromZero : Obligations.ScalingRoundsHalfAwayFromZero := by
  intro e raw hdivisor
  exact ⟨roundHalfAway_nearest _ hdivisor, roundHalfAway_tie_away _ hdivisor⟩

end Sys2Proof.Proofs
end

section
/-!
The cursor at the return of a slip (R149). `State.giveBack` clears, writes and notifies before it moves the cursor; its frame lemma says
that none of these touches RING or the cursor, so the advance is judged by what both held before the return.
-/
namespace Sys2Proof.Proofs
open Sys2Proof.Machine

/-! ### `State.nextCursor` -/

/-- The two reasons to wrap: RING-END on the slip, or a next slip at or above the ring length. -/
theorem nextCursor_of_wraps {s : State} {ringEnd : Bool} (h : ringEnd = true ∨ s.port.ring ≤ s.scanner.cursor + 1) :
    s.nextCursor ringEnd = 0 :=
  if_pos h

theorem nextCursor_of_not_wraps {s : State} {ringEnd : Bool}
    (h : ¬ (ringEnd = true ∨ s.port.ring ≤ s.scanner.cursor + 1)) : s.nextCursor ringEnd = s.scanner.cursor + 1 :=
  if_neg h

/-! ### The return of a slip -/

@[simp] theorem giveBack_cursor (s : State) (p : Slip) (r : Result) :
    (s.giveBack p r).scanner.cursor = s.nextCursor p.ringEnd :=
  congrArg (·.scanner.cursor) (State.giveBack_frame s p r)

/-- Settles O22: the cursor that `giveBack` leaves is `nextCursor` of the state before it, in both of its cases. -/
theorem cursorAdvancesByTheStoredRing : Obligations.CursorAdvancesByTheStoredRing := by
  intro s p r
  rw [giveBack_cursor]
  split
  case isTrue hwraps => exact nextCursor_of_wraps hwraps
  case isFalse hadvances => exact nextCursor_of_not_wraps hadvances

end Sys2Proof.Proofs
end

section
/-!
The fields of the state after the operations every block shares: bytes stored, a notice set, a field published, the scanner moved.
-/
namespace Sys2Proof.Proofs
open Sys2Proof Sys2Proof.Machine

/-! ### Bytes stored move the port alone -/

@[simp] theorem store_pending (s : State) (a : Nat) (bytes : List Byte) : (s.store a bytes).pending = s.pending := rfl
@[simp] theorem store_powered (s : State) (a : Nat) (bytes : List Byte) : (s.store a bytes).powered = s.powered := rfl
@[simp] theorem store_resetLow (s : State) (a : Nat) (bytes : List Byte) : (s.store a bytes).resetLow = s.resetLow := rfl
@[simp] theorem store_scanner (s : State) (a : Nat) (bytes : List Byte) : (s.store a bytes).scanner = s.scanner := rfl
@[simp] theorem store_intake (s : State) (a : Nat) (bytes : List Byte) : (s.store a bytes).intake = s.intake := rfl
@[simp] theorem store_lines (s : State) (a : Nat) (bytes : List Byte) : (s.store a bytes).lines = s.lines := rfl
@[simp] theorem store_pulse (s : State) (a : Nat) (bytes : List Byte) : (s.store a bytes).pulse = s.pulse := rfl
@[simp] theorem store_sensor (s : State) (a : Nat) (bytes : List Byte) : (s.store a bytes).sensor = s.sensor := rfl
@[simp] theorem store_board (s : State) (a : Nat) (bytes : List Byte) : (s.store a bytes).board = s.board := rfl
@[simp] theorem store_monitor (s : State) (a : Nat) (bytes : List Byte) : (s.store a bytes).monitor = s.monitor := rfl
@[simp] theorem store_duty (s : State) (a : Nat) (bytes : List Byte) : (s.store a bytes).duty = s.duty := rfl
@[simp] theorem store_slots (s : State) (a : Nat) (bytes : List Byte) : (s.store a bytes).slots = s.slots := rfl
@[simp] theorem store_samples (s : State) (a : Nat) (bytes : List Byte) : (s.store a bytes).samples = s.samples := rfl
@[simp] theorem store_hires (s : State) (a : Nat) (bytes : List Byte) : (s.store a bytes).hires = s.hires := rfl
@[simp] theorem store_depot (s : State) (a : Nat) (bytes : List Byte) : (s.store a bytes).depot = s.depot := rfl
@[simp] theorem store_tune (s : State) (a : Nat) (bytes : List Byte) : (s.store a bytes).tune = s.tune := rfl
@[simp] theorem store_supply (s : State) (a : Nat) (bytes : List Byte) : (s.store a bytes).supply = s.supply := rfl
@[simp] theorem store_journal (s : State) (a : Nat) (bytes : List Byte) : (s.store a bytes).journal = s.journal := rfl
@[simp] theorem store_draws (s : State) (a : Nat) (bytes : List Byte) : (s.store a bytes).draws = s.draws := rfl

/-! ### A notice set moves the port alone -/

@[simp] theorem setNotice_pending (s : State) (n : Notice) : (s.setNotice n).pending = s.pending := by
  unfold State.setNotice; split <;> rfl
@[simp] theorem setNotice_powered (s : State) (n : Notice) : (s.setNotice n).powered = s.powered := by
  unfold State.setNotice; split <;> rfl
@[simp] theorem setNotice_resetLow (s : State) (n : Notice) : (s.setNotice n).resetLow = s.resetLow := by
  unfold State.setNotice; split <;> rfl
@[simp] theorem setNotice_scanner (s : State) (n : Notice) : (s.setNotice n).scanner = s.scanner := by
  unfold State.setNotice; split <;> rfl
@[simp] theorem setNotice_intake (s : State) (n : Notice) : (s.setNotice n).intake = s.intake := by
  unfold State.setNotice; split <;> rfl
@[simp] theorem setNotice_lines (s : State) (n : Notice) : (s.setNotice n).lines = s.lines := by
  unfold State.setNotice; split <;> rfl
@[simp] theorem setNotice_pulse (s : State) (n : Notice) : (s.setNotice n).pulse = s.pulse := by
  unfold State.setNotice; split <;> rfl
@[simp] theorem setNotice_sensor (s : State) (n : Notice) : (s.setNotice n).sensor = s.sensor := by
  unfold State.setNotice; split <;> rfl
@[simp] theorem setNotice_board (s : State) (n : Notice) : (s.setNotice n).board = s.board := by
  unfold State.setNotice; split <;> rfl
@[simp] theorem setNotice_monitor (s : State) (n : Notice) : (s.setNotice n).monitor = s.monitor := by
  unfold State.setNotice; split <;> rfl
@[simp] theorem setNotice_duty (s : State) (n : Notice) : (s.setNotice n).duty = s.duty := by
  unfold State.setNotice; split <;> rfl
@[simp] theorem setNotice_slots (s : State) (n : Notice) : (s.setNotice n).slots = s.slots := by
  unfold State.setNotice; split <;> rfl
@[simp] theorem setNotice_samples (s : State) (n : Notice) : (s.setNotice n).samples = s.samples := by
  unfold State.setNotice; split <;> rfl
@[simp] theorem setNotice_hires (s : State) (n : Notice) : (s.setNotice n).hires = s.hires := by
  unfold State.setNotice; split <;> rfl
@[simp] theorem setNotice_depot (s : State) (n : Notice) : (s.setNotice n).depot = s.depot := by
  unfold State.setNotice; split <;> rfl
@[simp] theorem setNotice_tune (s : State) (n : Notice) : (s.setNotice n).tune = s.tune := by
  unfold State.setNotice; split <;> rfl
@[simp] theorem setNotice_supply (s : State) (n : Notice) : (s.setNotice n).supply = s.supply := by
  unfold State.setNotice; split <;> rfl
@[simp] theorem setNotice_journal (s : State) (n : Notice) : (s.setNotice n).journal = s.journal := by
  unfold State.setNotice; split <;> rfl
@[simp] theorem setNotice_draws (s : State) (n : Notice) : (s.setNotice n).draws = s.draws := by
  unfold State.setNotice; split <;> rfl

/-! ### A field published moves the port alone -/

@[simp] theorem publish_pending (s : State) (a : Nat) (bytes : List Byte) : (s.publish a bytes).pending = s.pending := by
  unfold State.publish; split <;> rfl
@[simp] theorem publish_powered (s : State) (a : Nat) (bytes : List Byte) : (s.publish a bytes).powered = s.powered := by
  unfold State.publish; split <;> rfl
@[simp] theorem publish_resetLow (s : State) (a : Nat) (bytes : List Byte) : (s.publish a bytes).resetLow = s.resetLow := by
  unfold State.publish; split <;> rfl
@[simp] theorem publish_scanner (s : State) (a : Nat) (bytes : List Byte) : (s.publish a bytes).scanner = s.scanner := by
  unfold State.publish; split <;> rfl
@[simp] theorem publish_intake (s : State) (a : Nat) (bytes : List Byte) : (s.publish a bytes).intake = s.intake := by
  unfold State.publish; split <;> rfl
@[simp] theorem publish_lines (s : State) (a : Nat) (bytes : List Byte) : (s.publish a bytes).lines = s.lines := by
  unfold State.publish; split <;> rfl
@[simp] theorem publish_pulse (s : State) (a : Nat) (bytes : List Byte) : (s.publish a bytes).pulse = s.pulse := by
  unfold State.publish; split <;> rfl
@[simp] theorem publish_sensor (s : State) (a : Nat) (bytes : List Byte) : (s.publish a bytes).sensor = s.sensor := by
  unfold State.publish; split <;> rfl
@[simp] theorem publish_board (s : State) (a : Nat) (bytes : List Byte) : (s.publish a bytes).board = s.board := by
  unfold State.publish; split <;> rfl
@[simp] theorem publish_monitor (s : State) (a : Nat) (bytes : List Byte) : (s.publish a bytes).monitor = s.monitor := by
  unfold State.publish; split <;> rfl
@[simp] theorem publish_duty (s : State) (a : Nat) (bytes : List Byte) : (s.publish a bytes).duty = s.duty := by
  unfold State.publish; split <;> rfl
@[simp] theorem publish_slots (s : State) (a : Nat) (bytes : List Byte) : (s.publish a bytes).slots = s.slots := by
  unfold State.publish; split <;> rfl
@[simp] theorem publish_samples (s : State) (a : Nat) (bytes : List Byte) : (s.publish a bytes).samples = s.samples := by
  unfold State.publish; split <;> rfl
@[simp] theorem publish_hires (s : State) (a : Nat) (bytes : List Byte) : (s.publish a bytes).hires = s.hires := by
  unfold State.publish; split <;> rfl
@[simp] theorem publish_depot (s : State) (a : Nat) (bytes : List Byte) : (s.publish a bytes).depot = s.depot := by
  unfold State.publish; split <;> rfl
@[simp] theorem publish_tune (s : State) (a : Nat) (bytes : List Byte) : (s.publish a bytes).tune = s.tune := by
  unfold State.publish; split <;> rfl
@[simp] theorem publish_supply (s : State) (a : Nat) (bytes : List Byte) : (s.publish a bytes).supply = s.supply := by
  unfold State.publish; split <;> rfl
@[simp] theorem publish_journal (s : State) (a : Nat) (bytes : List Byte) : (s.publish a bytes).journal = s.journal := by
  unfold State.publish; split <;> rfl
@[simp] theorem publish_draws (s : State) (a : Nat) (bytes : List Byte) : (s.publish a bytes).draws = s.draws := by
  unfold State.publish; split <;> rfl

/-! ### A change of the scanner moves the scanner and the port alone -/

@[simp] theorem setScanner_pending (s : State) (v : Scanner) : (s.setScanner v).pending = s.pending := by
  rw [State.setScanner_frame]
@[simp] theorem setScanner_powered (s : State) (v : Scanner) : (s.setScanner v).powered = s.powered := by
  rw [State.setScanner_frame]
@[simp] theorem setScanner_resetLow (s : State) (v : Scanner) : (s.setScanner v).resetLow = s.resetLow := by
  rw [State.setScanner_frame]
@[simp] theorem setScanner_intake (s : State) (v : Scanner) : (s.setScanner v).intake = s.intake := by
  rw [State.setScanner_frame]
@[simp] theorem setScanner_lines (s : State) (v : Scanner) : (s.setScanner v).lines = s.lines := by
  rw [State.setScanner_frame]
@[simp] theorem setScanner_pulse (s : State) (v : Scanner) : (s.setScanner v).pulse = s.pulse := by
  rw [State.setScanner_frame]
@[simp] theorem setScanner_sensor (s : State) (v : Scanner) : (s.setScanner v).sensor = s.sensor := by
  rw [State.setScanner_frame]
@[simp] theorem setScanner_board (s : State) (v : Scanner) : (s.setScanner v).board = s.board := by
  rw [State.setScanner_frame]
@[simp] theorem setScanner_monitor (s : State) (v : Scanner) : (s.setScanner v).monitor = s.monitor := by
  rw [State.setScanner_frame]
@[simp] theorem setScanner_duty (s : State) (v : Scanner) : (s.setScanner v).duty = s.duty := by
  rw [State.setScanner_frame]
@[simp] theorem setScanner_slots (s : State) (v : Scanner) : (s.setScanner v).slots = s.slots := by
  rw [State.setScanner_frame]
@[simp] theorem setScanner_samples (s : State) (v : Scanner) : (s.setScanner v).samples = s.samples := by
  rw [State.setScanner_frame]
@[simp] theorem setScanner_hires (s : State) (v : Scanner) : (s.setScanner v).hires = s.hires := by
  rw [State.setScanner_frame]
@[simp] theorem setScanner_depot (s : State) (v : Scanner) : (s.setScanner v).depot = s.depot := by
  rw [State.setScanner_frame]
@[simp] theorem setScanner_tune (s : State) (v : Scanner) : (s.setScanner v).tune = s.tune := by
  rw [State.setScanner_frame]
@[simp] theorem setScanner_supply (s : State) (v : Scanner) : (s.setScanner v).supply = s.supply := by
  rw [State.setScanner_frame]
@[simp] theorem setScanner_journal (s : State) (v : Scanner) : (s.setScanner v).journal = s.journal := by
  rw [State.setScanner_frame]
@[simp] theorem setScanner_draws (s : State) (v : Scanner) : (s.setScanner v).draws = s.draws := by
  rw [State.setScanner_frame]

@[simp] theorem setScanner_scanner (s : State) (v : Scanner) : (s.setScanner v).scanner = v := by
  rw [State.setScanner_frame]

end Sys2Proof.Proofs
end

section
/-!
What a command can do, said once. Every command first changes the part as its row says alone (`Begins`) and then goes on by the
moves below, each of which carries the condition under which the model makes it. A law of the state is then kept by every step as soon
as each beginning and each move keeps it.
-/
namespace Sys2Proof.Proofs
open Sys2Proof Sys2Proof.Machine

/-! ### The moves -/

/-- A change of a body that no law of R3 to R8 and R108 forbids: the class stays, no counter falls, and a residue that the gate could
have left stays one. -/
structure BodyMove (tune : TuneSet) (b c : Body) : Prop where
  cls : c.cls = b.cls
  counts : b.lawful → c.lawful ∧ b.atLeast c
  residue : gatesLegal tune → (∀ r, b.residue = some r → r.lawful) → ∀ r, c.residue = some r → r.lawful

/-- An increment whose cell exists, or whose remainder is one of a division by 19099. -/
def Increment.inRange : Increment → Prop
  | .engineQuantum cell _ => cell < 17
  | .slipEnergy _ remainder => remainder < Config.energyDivisor
  | _ => True

/-- A change of the hire register that keeps R129, R130 and R133. -/
structure HireMove (s : State) (v : HireRegister) : Prop where
  apart : s.depotOrHire → s.depot.state = .depot → v.hire = none
  bounded : registerBounded s.hires.hire s.hires.bucket → registerBounded v.hire v.bucket
  within : deltasWithinDamage s.slots s.hires.hire → deltasWithinDamage s.slots v.hire

/-- A page in writing: its staging is the state as it stands, or that of the page that failed before it, and its sequence is above the
newest (R170, R171). -/
structure PageMove (s : State) (w : Writing) : Prop where
  staged : w.staging = s.snapshot ∨ ∃ v, s.journal.writing = some v ∧ w.staging = v.staging
  page : w.page < Config.pageCount
  above : s.journalLaw → s.powered = true → s.journal.newestSequence < w.sequence

/-- One move of a command that began at `s₀`. A part whose port the pin reset has left quiet moves its port, its held slip, its FEED
and its waiting slip with RESETn high alone (R153). -/
inductive Move (s₀ : State) : State → State → Prop
  | port {s : State} (v : Port) (open_ : s₀.quietInReset → s.resetLow = false) (form : s.port.mem.wf → v.mem.wf)
      (ring : 4 ≤ s.port.ring ∧ s.port.ring ≤ 64 → 4 ≤ v.ring ∧ v.ring ≤ 64) : Move s₀ s (s.withPort v)
  | scanner {s : State} (v : Scanner) (open_ : (s₀.quietInReset → s.resetLow = false) ∨ (s.scanner.held = none → v.held = none))
      (cursor : s₀.ringLegal → v.cursor < 64) : Move s₀ s (s.withScanner v)
  | intake {s : State} (v : Intake) (open_ : (s₀.quietInReset → s.resetLow = false) ∨ (s.intake.feed = none → v.feed = none))
      (routes : routesDistinct (s.intake.routes.map (·.entry)) → routesDistinct (v.routes.map (·.entry)))
      (tallies : s.intake.tallies.bounded → v.tallies.bounded) : Move s₀ s (s.withIntake v)
  | aside {s : State} (lines : Lines) (sensor : Sensor) (board : Board) (monitor : Monitor) (duty : Duty) (draws : Nat) :
      Move s₀ s { s with lines := lines, sensor := sensor, board := board, monitor := monitor, duty := duty, draws := draws }
  | supply {s : State} (v : Supply) (rest : s.samplesLaw → v.power ≠ .run → s.samples = []) : Move s₀ s (s.withSupply v)
  | pulse {s : State} (v : Pulse) (sound : limitLegal s.tune → ∀ ch, (s.pulse.get ch).sound s.tune.pulse.limit →
      (v.get ch).sound s.tune.pulse.limit) : Move s₀ s (s.withPulse v)
  | body {s : State} (slot : Nat) (f : Body → Body) (move : ∀ c, s.slotAt slot = some c → BodyMove s.tune c.body (f c.body)) :
      Move s₀ s (s.modifyBody slot f)
  | damage {s : State} (slot amount : Nat) : Move s₀ s (s.landDamage slot amount)
  | free {s : State} (slot : Nat) : Move s₀ s (s.withSlots (s.slots.set slot none))
  | samples {s : State} (v : List SlotSample) (run : s.supply.power = .run) : Move s₀ s (s.withSamples v)
  | hires {s : State} (v : HireRegister) (move : HireMove s v) : Move s₀ s (s.withHires v)
  | depot {s : State} (v : Depot) (apart : v.state = .depot → s.depot.state = .depot ∨ s.hires.hire = none) :
      Move s₀ s (s.withDepot v)
  | tune {s : State} (new : TuneSet) (v : Pulse) (legal : s.tune.legal → new.legal) (limit : limitLegal s.tune → limitLegal new)
      (gates : gatesLegal s.tune → gatesLegal new)
      (sound : limitLegal s.tune → ∀ ch, (s.pulse.get ch).sound s.tune.pulse.limit → (v.get ch).sound new.pulse.limit) :
      Move s₀ s ((s.withTune new).withPulse v)
  | journal {s : State} (v : Journal) (pages : v.pages = s.journal.pages)
      (newest : v.newestSequence = s.journal.newestSequence) (writing : v.writing = s.journal.writing ∨ v.writing = none)
      (open_ : (s₀.quietInReset → s.resetLow = false) ∨ (s.journal.waiting = none → v.waiting = none)) : Move s₀ s (s.withJournal v)
  | beginPage {s : State} (w : Writing) (move : PageMove s w) : Move s₀ s (s.withJournal (s.journal.beginPage w))
  | endPage {s : State} (w : Writing) (writing : s.journal.writing = some w) (powered : s.powered = true) (time : Nat) :
      Move s₀ s (s.withJournal { s.journal with
        pages := s.journal.pages.set w.page (.whole w.sequence w.staging), newestPage := some w.page
        newestSequence := w.sequence, lastTime := time, writing := none })

/-- What a command that began at `s₀` can have reached. -/
def Moves (s₀ s : State) : Prop := Relation.ReflTransGen (Move s₀) s₀ s

/-- What a command does before it moves on: an accepted FIT places its record, the pins and the supply set the part anew, and every
other command does nothing that a move is not. -/
inductive Begins (s : State) : State → Prop
  | same : Begins s s
  | place (p : Slip) (cls : ComponentClass) (slot : Nat) (checked : checkFit s p = .ok cls) (free : freeSlot s.slots = some slot) :
      Begins s (s.place slot (s.fittedRecord p cls))
  | pinReset : Begins s s.pinReset
  | release : Begins s ((s.withResetLow false).withPort { s.port with cause := .pin })
  | powerLoss : Begins s s.unpowered
  | restore (lines : Lines) (mv : Nat) (off : s.powered = false) : Begins s (s.restored lines mv)

theorem Moves.refl (s₀ : State) : Moves s₀ s₀ := Relation.ReflTransGen.refl

theorem Moves.move {s₀ s t : State} (h : Moves s₀ s) (m : Move s₀ s t) : Moves s₀ t := Relation.ReflTransGen.tail h m

/-- What holds at the beginning and is kept by every move holds wherever the moves lead. -/
theorem Moves.keep {s₀ s : State} (P : State → Prop) (h : Moves s₀ s) (start : P s₀)
    (kept : ∀ {s t : State}, Move s₀ s t → P s → P t) : P s := by
  induction h with
  | refl => exact start
  | tail _ m ih => exact kept m ih

end Sys2Proof.Proofs
end

section
namespace Sys2Proof.Proofs
open Sys2Proof Sys2Proof.Machine

/-! ### What no move touches -/

theorem Move.resetLow {s₀ s t : State} (m : Move s₀ s t) : t.resetLow = s.resetLow := by cases m <;> rfl

theorem Move.powered {s₀ s t : State} (m : Move s₀ s t) : t.powered = s.powered := by cases m <;> rfl

theorem Moves.resetLow {s₀ s : State} (h : Moves s₀ s) : s.resetLow = s₀.resetLow :=
  h.keep (fun u => u.resetLow = s₀.resetLow) rfl (fun m e => m.resetLow.trans e)

theorem Moves.powered {s₀ s : State} (h : Moves s₀ s) : s.powered = s₀.powered :=
  h.keep (fun u => u.powered = s₀.powered) rfl (fun m e => m.powered.trans e)

/-! ### The port -/

theorem Move.keeps_memoryForm {s₀ s t : State} (m : Move s₀ s t) (h : s.port.mem.wf) : t.port.mem.wf := by
  cases m with
  | port v _ form _ => exact form h
  | _ => exact h

theorem Move.keeps_ringLegal {s₀ s t : State} (m : Move s₀ s t) (start : s₀.ringLegal) (h : s.ringLegal) : t.ringLegal := by
  cases m with
  | port v _ _ ring => exact ⟨ring h.1, h.2⟩
  | scanner v _ cursor => exact ⟨h.1, cursor start⟩
  | _ => exact h

theorem Moves.keeps_ringLegal {s₀ s : State} (h : Moves s₀ s) (start : s₀.ringLegal) : s.ringLegal :=
  h.keep (fun u => u.ringLegal) start (fun m k => m.keeps_ringLegal start k)

/-- With RESETn low a quiet port stays quiet: each move that could stir it has RESETn high, or leaves what is empty empty. -/
theorem Move.keeps_quietInReset {s₀ s t : State} (m : Move s₀ s t) (start : s₀.quietInReset) (h : s.quietInReset) :
    t.quietInReset := by
  intro low
  obtain ⟨hmem, hnotice, hheld, hfeed, hwaiting⟩ := h (m.resetLow ▸ low)
  have shut {p : Prop} : (s₀.quietInReset → s.resetLow = false) → p := fun open_ => by
    rw [m.resetLow, open_ start] at low
    cases low
  cases m with
  | port v open_ => exact shut open_
  | scanner v open_ => exact open_.elim shut fun kept => ⟨hmem, hnotice, kept hheld, hfeed, hwaiting⟩
  | intake v open_ => exact open_.elim shut fun kept => ⟨hmem, hnotice, hheld, kept hfeed, hwaiting⟩
  | journal v _ _ _ open_ => exact open_.elim shut fun kept => ⟨hmem, hnotice, hheld, hfeed, kept hwaiting⟩
  | _ => exact ⟨hmem, hnotice, hheld, hfeed, hwaiting⟩

theorem Moves.keeps_quietInReset {s₀ s : State} (h : Moves s₀ s) (start : s₀.quietInReset) : s.quietInReset :=
  h.keep State.quietInReset start (fun m k => m.keeps_quietInReset start k)

/-! ### The journal -/

theorem Journal.every_of_same {j v : Journal} {good : Snapshot → Prop} (h : j.every good) (pages : v.pages = j.pages)
    (writing : v.writing = j.writing ∨ v.writing = none) : v.every good := by
  refine ⟨fun n c hc => h.1 n c (pages ▸ hc), fun w hw => ?_⟩
  rcases writing with e | e <;> rw [e] at hw
  · exact h.2 w hw
  · cases hw

theorem Journal.every_beginPage {s : State} {w : Writing} {good : Snapshot → Prop} (h : s.journal.every good)
    (now : good s.snapshot) (move : PageMove s w) : (s.journal.beginPage w).every good := by
  refine ⟨fun n c hc => ?_, fun v hv => ?_⟩
  · rcases List.mem_or_eq_of_mem_set hc with hc | hc
    · exact h.1 n c hc
    · cases hc
  · obtain rfl : w = v := Option.some.inj hv
    rcases move.staged with e | ⟨u, hu, e⟩ <;> rw [e]
    · exact now
    · exact h.2 u hu

/-- A property of snapshots that the state as it stands has, in every snapshot of the journal, after a move that keeps it of the
state. -/
theorem Move.keeps_every {s₀ s t : State} (m : Move s₀ s t) {good : Snapshot → Prop} (h : s.journal.every good)
    (now : good s.snapshot) : t.journal.every good := by
  cases m with
  | journal v pages _ writing => exact Journal.every_of_same h pages writing
  | beginPage w move => exact Journal.every_beginPage h now move
  | endPage w writing =>
    refine ⟨fun n c hc => ?_, fun v hv => by cases hv⟩
    rcases List.mem_or_eq_of_mem_set hc with hc | hc
    · exact h.1 n c hc
    · cases hc
      exact h.2 w writing
  | _ => exact h

theorem Move.keeps_journalLaw {s₀ s t : State} (m : Move s₀ s t) (h : s.journalLaw) : t.journalLaw := by
  have ⟨hlength, hdistinct, hnewest, hwriting⟩ := h
  cases m with
  | journal v pages newest writing =>
    refine ⟨by simpa [pages] using hlength, by simpa [pages] using hdistinct, by simpa [pages, newest] using hnewest, ?_⟩
    intro on w hw
    rcases writing with e | e <;> simp only [State.withJournal_journal, e] at hw
    · simpa [pages, newest] using hwriting on w hw
    · cases hw
  | beginPage w move =>
    have whole {i n : Nat} {c : Snapshot} (hi : (s.journal.pages.set w.page (.torn w.sequence))[i]? = some (.whole n c)) :
        s.journal.pages[i]? = some (.whole n c) := by
      rw [List.getElem?_set] at hi
      split at hi
      · split at hi <;> cases hi
      · exact hi
    refine ⟨by simpa [Journal.beginPage] using hlength, fun i j n c d hi hj => hdistinct i j n c d (whole hi) (whole hj),
      fun on i n c hi => hnewest on i n c (whole hi), fun on v hv => ?_⟩
    obtain rfl : w = v := Option.some.inj hv
    exact ⟨move.above h on, by simp [Journal.beginPage, hlength, move.page]⟩
  | endPage w writing on time =>
    obtain ⟨above, _⟩ := hwriting on w writing
    have cases_whole {i n : Nat} {c : Snapshot}
        (hi : (s.journal.pages.set w.page (.whole w.sequence w.staging))[i]? = some (.whole n c)) :
        (i = w.page ∧ n = w.sequence) ∨ (s.journal.pages[i]? = some (.whole n c) ∧ n ≤ s.journal.newestSequence) := by
      rw [List.getElem?_set] at hi
      split at hi
      · split at hi <;> cases hi
        exact .inl ⟨‹_ = i›.symm, rfl⟩
      · exact .inr ⟨hi, hnewest on i n c hi⟩
    refine ⟨by simpa using hlength, fun i j n c d hi hj => ?_, fun _ i n c hi => ?_, fun _ v hv => by cases hv⟩
    · rcases cases_whole hi with ⟨hi, hn⟩ | ⟨hi, hn⟩ <;> rcases cases_whole hj with ⟨hj, hm⟩ | ⟨hj, hm⟩
      · rw [hi, hj]
      · omega
      · omega
      · exact hdistinct i j n c d hi hj
    · show n ≤ w.sequence
      rcases cases_whole hi with ⟨_, hn⟩ | ⟨_, hn⟩ <;> omega
  | _ => exact h

/-! ### Hires, depot, routes, tuning, channels, samples -/

theorem mapCounts_hire_none {h : HireRegister} (f : Counts → Counts) (e : h.hire = none) : (h.mapCounts f).hire = none := by
  simp [HireRegister.mapCounts, e]

theorem mapEntries_hire_none {h : HireRegister} (f : List DamageEntry → List DamageEntry) (e : h.hire = none) :
    (h.mapEntries f).hire = none := by
  simp [HireRegister.mapEntries, e]

theorem Move.keeps_depotOrHire {s₀ s t : State} (m : Move s₀ s t) (h : s.depotOrHire) : t.depotOrHire := by
  cases m with
  | hires v move => exact move.apart h
  | depot v apart => exact fun d => (apart d).elim h id
  | damage slot amount => exact fun d => mapEntries_hire_none _ (h d)
  | _ => exact h

theorem Move.keeps_routesLaw {s₀ s t : State} (m : Move s₀ s t) (h : s.routesLaw) : t.routesLaw := by
  refine ⟨?_, m.keeps_every h.2 h.1⟩
  cases m with
  | intake v _ routes => exact routes h.1
  | _ => exact h.1

theorem Move.keeps_tuneLaw {s₀ s t : State} (m : Move s₀ s t) (h : s.tuneLaw) : t.tuneLaw := by
  refine ⟨?_, m.keeps_every h.2 h.1⟩
  cases m with
  | tune new v legal => exact legal h.1
  | _ => exact h.1

theorem Move.keeps_channelLaw {s₀ s t : State} (m : Move s₀ s t) (h : s.channelLaw) : t.channelLaw := by
  obtain ⟨hlimit, hsound, hevery⟩ := h
  have every := m.keeps_every hevery hlimit
  cases m with
  | pulse v sound => exact ⟨hlimit, fun ch => sound hlimit ch (hsound ch), every⟩
  | tune new v _ limit _ sound => exact ⟨limit hlimit, fun ch => sound hlimit ch (hsound ch), every⟩
  | _ => exact ⟨hlimit, hsound, every⟩

theorem Move.keeps_samplesLaw {s₀ s t : State} (m : Move s₀ s t) (h : s.samplesLaw) : t.samplesLaw := by
  cases m with
  | supply v rest => exact rest h
  | samples v run => exact fun off => absurd run off
  | _ => exact h

end Sys2Proof.Proofs
end

section
namespace Sys2Proof.Proofs
open Sys2Proof Sys2Proof.Machine

/-! ### Slots read by number -/

theorem slotAt_eq_some {s : State} {i : Nat} {c : Component} : s.slotAt i = some c ↔ s.slots[i]? = some (some c) :=
  Option.join_eq_some_iff

theorem mem_slots_iff {s : State} {c : Component} : some c ∈ s.slots ↔ ∃ i, s.slotAt i = some c := by
  simp only [slotAt_eq_some, List.mem_iff_getElem?]

theorem slotAt_modifyBody (s : State) (slot : Nat) (f : Body → Body) (i : Nat) :
    (s.modifyBody slot f).slotAt i = (s.slotAt i).map (fun c => if slot = i then { c with body := f c.body } else c) := by
  simp only [State.modifyBody, State.slotAt, State.withSlots, List.getElem?_modify]
  by_cases e : slot = i
  · rcases s.slots[i]? with _ | _ | c <;> simp [e]
  · simp [e]

theorem slotAt_set_none (s : State) (slot i : Nat) :
    (s.withSlots (s.slots.set slot none)).slotAt i = if slot = i then none else s.slotAt i := by
  simp only [State.slotAt, State.withSlots_slots, List.getElem?_set]
  split
  · split <;> rfl
  · rfl

/-! ### Bodies: `atLeast` orders them -/

theorem cellsAtLeast_refl (l : List Nat) : cellsAtLeast l l := ⟨rfl, fun _ => le_rfl⟩

theorem cellsAtLeast_trans {k l m : List Nat} (h : cellsAtLeast k l) (g : cellsAtLeast l m) : cellsAtLeast k m :=
  ⟨h.1.trans g.1, fun i => (h.2 i).trans (g.2 i)⟩

theorem atLeast_refl (b : Body) : b.atLeast b := by
  cases b <;> simp [Body.atLeast, cellsAtLeast_refl]

theorem atLeast_trans {a b c : Body} (h : a.atLeast b) (g : b.atLeast c) : a.atLeast c := by
  cases a <;> cases b <;> try exact h.elim
  all_goals cases c <;> try exact g.elim
  case engine =>
    obtain ⟨h1, h2, h3, h4, h5, h6, h7, h8⟩ := h
    obtain ⟨g1, g2, g3, g4, g5, g6, g7, g8⟩ := g
    exact ⟨h1.trans g1, h2.trans g2, h3.trans g3, h4.trans g4, h5.trans g5, h6.trans g6, h7.trans g7, cellsAtLeast_trans h8 g8⟩
  case gearbox =>
    obtain ⟨h1, h2, h3, h4⟩ := h
    obtain ⟨g1, g2, g3, g4⟩ := g
    exact ⟨h1.trans g1, cellsAtLeast_trans h2 g2, h3.trans g3, h4.trans g4⟩
  all_goals
    simp only [Body.atLeast] at *
    omega

/-- The damage of a residue does not fall where no counter of its body does. -/
theorem damage_le_of_atLeast {b c : Body} (h : b.atLeast c) {q : Residue} (hq : c.residue = some q) :
    ∃ r, b.residue = some r ∧ r.damage ≤ q.damage := by
  cases c with
  | gearbox c => cases b with
    | gearbox b => cases hq; exact ⟨b.residue, rfl, h.2.2.1⟩
    | _ => exact h.elim
  | axle c => cases b with
    | axle b => cases hq; exact ⟨b.residue, rfl, h.2.1⟩
    | _ => exact h.elim
  | _ => cases hq

theorem BodyMove.refl (tune : TuneSet) (b : Body) : BodyMove tune b b :=
  ⟨rfl, fun h => ⟨h, atLeast_refl b⟩, fun _ h => h⟩

theorem satAdd_le (ceiling a b : Nat) : satAdd ceiling a b ≤ ceiling := Nat.min_le_left _ _

theorem le_satAdd {ceiling a : Nat} (b : Nat) (h : a ≤ ceiling) : a ≤ satAdd ceiling a b :=
  Nat.le_min.2 ⟨h, Nat.le_add_right a b⟩

theorem satAdd_mono_left {ceiling a b : Nat} (n : Nat) (h : a ≤ b) : satAdd ceiling a n ≤ satAdd ceiling b n := by
  unfold satAdd
  omega

/-- A residue changed in its damage and drops alone, each by a saturating sum, or in its stack and candidate. -/
theorem bodyMove_mapResidue (tune : TuneSet) (b : Body) (f : Residue → Residue)
    (damage : ∀ r, r.damage ≤ Config.damageCeiling → r.damage ≤ (f r).damage ∧ (f r).damage ≤ Config.damageCeiling)
    (drops : ∀ r, r.drops ≤ Config.eventCeiling → r.drops ≤ (f r).drops ∧ (f r).drops ≤ Config.eventCeiling)
    (lawful : gatesLegal tune → ∀ r, b.residue = some r → r.lawful → (f r).lawful) :
    BodyMove tune b (b.mapResidue f) := by
  cases b with
  | gearbox b =>
    refine ⟨rfl, fun ⟨hshifts, hcells, hdamage, hdrops⟩ => ?_, fun gates h r e => ?_⟩
    · exact ⟨⟨hshifts, hcells, (damage _ hdamage).2, (drops _ hdrops).2⟩,
        le_rfl, cellsAtLeast_refl _, (damage _ hdamage).1, (drops _ hdrops).1⟩
    · cases e
      exact lawful gates _ rfl (h _ rfl)
  | axle b =>
    refine ⟨rfl, fun ⟨hclamped, hdamage, hdrops⟩ => ?_, fun gates h r e => ?_⟩
    · exact ⟨⟨hclamped, (damage _ hdamage).2, (drops _ hdrops).2⟩, le_rfl, (damage _ hdamage).1, (drops _ hdrops).1⟩
    · cases e
      exact lawful gates _ rfl (h _ rfl)
  | _ => exact BodyMove.refl tune _

theorem bodyMove_damage (tune : TuneSet) (b : Body) (amount : Nat) :
    BodyMove tune b (b.mapResidue (fun r => { r with damage := satAdd Config.damageCeiling r.damage amount })) :=
  bodyMove_mapResidue tune b _ (fun _ h => ⟨le_satAdd amount h, satAdd_le _ _ _⟩) (fun _ h => ⟨le_rfl, h⟩) (fun _ _ _ h => h)

/-! ### What a move does to a slot -/

/-- Two records with the same header (R2). -/
def SameHeader (c d : Component) : Prop :=
  c.position = d.position ∧ c.serial = d.serial ∧ c.fittedAt = d.fittedAt ∧ c.fitCount = d.fitCount

theorem SameHeader.refl (c : Component) : SameHeader c c := ⟨rfl, rfl, rfl, rfl⟩

theorem SameHeader.trans {c d e : Component} (h : SameHeader c d) (g : SameHeader d e) : SameHeader c e :=
  ⟨h.1.trans g.1, h.2.1.trans g.2.1, h.2.2.1.trans g.2.2.1, h.2.2.2.trans g.2.2.2⟩

/-- Every record of `t` stands in its slot in `s`, with the same header and a body that a move led from there. -/
def Descends (s t : State) : Prop :=
  ∀ i d, t.slotAt i = some d → ∃ c, s.slotAt i = some c ∧ SameHeader c d ∧ BodyMove s.tune c.body d.body

theorem descends_of_slots_eq {s t : State} (h : t.slots = s.slots) : Descends s t := fun i d e =>
  ⟨d, by rw [State.slotAt, ← h]; exact e, SameHeader.refl d, BodyMove.refl _ _⟩

theorem descends_modifyBody {s : State} {slot : Nat} {f : Body → Body}
    (move : ∀ c, s.slotAt slot = some c → BodyMove s.tune c.body (f c.body)) : Descends s (s.modifyBody slot f) := by
  intro i d e
  rw [slotAt_modifyBody] at e
  obtain ⟨c, hc, rfl⟩ := Option.map_eq_some_iff.1 e
  refine ⟨c, hc, ?_⟩
  split
  · subst slot
    exact ⟨⟨rfl, rfl, rfl, rfl⟩, move c hc⟩
  · exact ⟨SameHeader.refl c, BodyMove.refl _ _⟩

/-- No move fills a slot: it changes the body there, or frees it. -/
theorem Move.descends {s₀ s t : State} (m : Move s₀ s t) : Descends s t := by
  cases m with
  | body slot f move => exact descends_modifyBody move
  | damage slot amount => exact descends_modifyBody (fun c _ => bodyMove_damage s.tune c.body amount)
  | free slot =>
    intro i d e
    rw [slotAt_set_none] at e
    split at e
    · cases e
    · exact ⟨d, e, SameHeader.refl d, BodyMove.refl _ _⟩
  | _ => exact descends_of_slots_eq rfl

/-! ### Places and residues -/

theorem Move.keeps_placesLaw {s₀ s t : State} (m : Move s₀ s t) (h : s.placesLaw) : t.placesLaw := by
  refine ⟨fun i j c d hi hj hcls hpos => ?_, m.keeps_every h.2 h.1⟩
  obtain ⟨a, ha, ⟨apos, _⟩, amove⟩ := m.descends i c (slotAt_eq_some.2 hi)
  obtain ⟨b, hb, ⟨bpos, _⟩, bmove⟩ := m.descends j d (slotAt_eq_some.2 hj)
  refine h.1 i j a b (slotAt_eq_some.1 ha) (slotAt_eq_some.1 hb) ?_ (by omega)
  exact amove.cls.symm.trans (hcls.trans bmove.cls)

theorem Move.keeps_gatesLegal {s₀ s t : State} (m : Move s₀ s t) (h : gatesLegal s.tune) : gatesLegal t.tune := by
  cases m with
  | tune new v _ _ gates => exact gates h
  | _ => exact h

theorem Move.keeps_residueLaw {s₀ s t : State} (m : Move s₀ s t) (h : s.residueLaw) : t.residueLaw := by
  obtain ⟨⟨hresidues, hgates⟩, hevery⟩ := h
  refine ⟨⟨fun d hd r hr => ?_, m.keeps_gatesLegal hgates⟩, m.keeps_every hevery ⟨hresidues, hgates⟩⟩
  obtain ⟨i, hi⟩ := mem_slots_iff.1 hd
  obtain ⟨c, hc, _, move⟩ := m.descends i d hi
  exact move.residue hgates (hresidues c (mem_slots_iff.2 ⟨i, hc⟩)) r hr

/-! ### Counters -/

theorem Descends.bodies {s t : State} (h : Descends s t) (hs : bodiesLawful s.slots) : bodiesLawful t.slots := by
  intro d hd
  obtain ⟨i, hi⟩ := mem_slots_iff.1 hd
  obtain ⟨c, hc, _, move⟩ := h i d hi
  exact (move.counts (hs c (mem_slots_iff.2 ⟨i, hc⟩))).1

theorem Descends.fitCounts {s t : State} (h : Descends s t) (hs : fitCountsBounded s.slots) :
    fitCountsBounded t.slots := by
  intro d hd
  obtain ⟨i, hi⟩ := mem_slots_iff.1 hd
  obtain ⟨c, hc, ⟨_, _, _, hfit⟩, _⟩ := h i d hi
  exact hfit ▸ hs c (mem_slots_iff.2 ⟨i, hc⟩)

/-- The damage of a slot has not fallen, so the deltas of a hire that stands stay within it. -/
theorem Descends.deltas {s t : State} (h : Descends s t) (hs : bodiesLawful s.slots) {hire : Option Hire}
    (hd : deltasWithinDamage s.slots hire) : deltasWithinDamage t.slots hire := by
  intro g hg e he d q hslot hq
  obtain ⟨c, hc, _, move⟩ := h e.slot d (slotAt_eq_some.2 hslot)
  obtain ⟨r, hr, hle⟩ := damage_le_of_atLeast (move.counts (hs c (mem_slots_iff.2 ⟨_, hc⟩))).2 hq
  exact (hd g hg e he c r (slotAt_eq_some.1 hc) hr).trans hle

theorem deltasBounded_addDelta {entries : List DamageEntry} (slot amount : Nat) (h : deltasBounded entries) :
    deltasBounded (addDelta slot amount entries) := by
  intro e he
  obtain ⟨d, hd, rfl⟩ := List.mem_map.1 he
  split
  · exact satAdd_le _ _ _
  · exact h d hd

theorem registerBounded_mapEntries {h : HireRegister} {f : List DamageEntry → List DamageEntry}
    (hf : ∀ l, deltasBounded l → deltasBounded (f l)) (hb : registerBounded h.hire h.bucket) :
    registerBounded (h.mapEntries f).hire (h.mapEntries f).bucket := by
  obtain ⟨hhire, hcounts, hentries⟩ := hb
  cases e : h.hire with
  | none => simp [HireRegister.mapEntries, e, registerBounded, hcounts, hf _ hentries]
  | some g => simp [HireRegister.mapEntries, e, registerBounded, hcounts, hentries, hhire g e, hf _ (hhire g e).2]

theorem mapEntries_hire (h : HireRegister) (f : List DamageEntry → List DamageEntry) :
    (h.mapEntries f).hire = h.hire.map (fun g => { g with entries := f g.entries }) := by
  cases e : h.hire <;> simp [HireRegister.mapEntries, e]

theorem mapCounts_hire (h : HireRegister) (f : Counts → Counts) :
    (h.mapCounts f).hire = h.hire.map (fun g => { g with counts := f g.counts }) := by
  cases e : h.hire <;> simp [HireRegister.mapCounts, e]

theorem residue_mapResidue (b : Body) (f : Residue → Residue) : (b.mapResidue f).residue = b.residue.map f := by
  cases b <;> rfl

/-- A damage increment raises the slot's accumulator with the delta that gains it (R10, R130). -/
theorem deltasWithinDamage_landDamage {s : State} (slot amount : Nat) (h : deltasWithinDamage s.slots s.hires.hire)
    (lawful : bodiesLawful s.slots) :
    deltasWithinDamage (s.landDamage slot amount).slots (s.landDamage slot amount).hires.hire := by
  intro g hg e he d q hslot hq
  rw [State.landDamage_frame, mapEntries_hire] at hg
  obtain ⟨k, hk, rfl⟩ := Option.map_eq_some_iff.1 hg
  obtain ⟨e, he', rfl⟩ := List.mem_map.1 he
  have hslot' : (s.landDamage slot amount).slotAt e.slot = some d := by
    rw [slotAt_eq_some, ← hslot]
    split <;> rfl
  rw [State.landDamage, show (State.withHires _ _).slotAt e.slot = (State.modifyBody _ _ _).slotAt e.slot from rfl,
    slotAt_modifyBody] at hslot'
  obtain ⟨c, hc, rfl⟩ := Option.map_eq_some_iff.1 hslot'
  by_cases at_ : slot = e.slot
  · simp only [at_, if_true, residue_mapResidue] at hq
    obtain ⟨r, hr, rfl⟩ := Option.map_eq_some_iff.1 hq
    have hle := h k hk e he' c r (slotAt_eq_some.1 hc) hr
    split
    · exact satAdd_mono_left amount hle
    · obtain ⟨r', hr', hle'⟩ := damage_le_of_atLeast
        ((bodyMove_damage s.tune c.body amount).counts (lawful c (mem_slots_iff.2 ⟨_, hc⟩))).2
        (q := { r with damage := satAdd Config.damageCeiling r.damage amount }) (by rw [residue_mapResidue, hr]; rfl)
      cases hr.symm.trans hr'
      exact hle.trans hle'
  · rw [if_neg at_] at hq
    rw [if_neg (fun both => at_ both.1.symm)]
    exact h k hk e he' c q (slotAt_eq_some.1 hc) hq

theorem Move.keeps_counted {s₀ s t : State} (m : Move s₀ s t)
    (hbodies : bodiesLawful s.slots) (hregister : registerBounded s.hires.hire s.hires.bucket)
    (hdeltas : deltasWithinDamage s.slots s.hires.hire) :
    registerBounded t.hires.hire t.hires.bucket ∧ deltasWithinDamage t.slots t.hires.hire := by
  have deltas := m.descends.deltas hbodies hdeltas
  cases m with
  | hires v move => exact ⟨move.bounded hregister, move.within hdeltas⟩
  | damage slot amount =>
    exact ⟨registerBounded_mapEntries (fun _ => deltasBounded_addDelta slot amount) hregister,
      deltasWithinDamage_landDamage slot amount hdeltas hbodies⟩
  | _ => exact ⟨hregister, deltas⟩

theorem Move.keeps_countersLaw {s₀ s t : State} (m : Move s₀ s t) (h : s.countersLaw) : t.countersLaw := by
  obtain ⟨⟨hbodies, hfit, hregister⟩, htallies, ⟨hapart, hdeltas⟩, hevery⟩ := h
  obtain ⟨register, deltas⟩ := m.keeps_counted hbodies hregister hdeltas
  refine ⟨⟨m.descends.bodies hbodies, m.descends.fitCounts hfit, register⟩, ?_,
    ⟨m.keeps_depotOrHire hapart, deltas⟩, m.keeps_every hevery ⟨hbodies, hfit, hregister, hdeltas⟩⟩
  cases m with
  | intake v _ _ tallies => exact tallies htallies
  | _ => exact htallies

end Sys2Proof.Proofs
end

section
namespace Sys2Proof.Proofs
open Sys2Proof Sys2Proof.Machine

/-! ### Saturating counts -/

theorem bumpEvent_bounds {n : Nat} (h : n ≤ Config.eventCeiling) : n ≤ bumpEvent n ∧ bumpEvent n ≤ Config.eventCeiling :=
  ⟨le_satAdd 1 h, satAdd_le _ _ _⟩

theorem bumpTime_bounds {n : Nat} (h : n ≤ Config.timeCeiling) : n ≤ bumpTime n ∧ bumpTime n ≤ Config.timeCeiling :=
  ⟨le_satAdd 1 h, satAdd_le _ _ _⟩

/-- Below the ceiling one more quantum is counted. -/
theorem bumpTime_of_lt {n : Nat} (h : n < Config.timeCeiling) : bumpTime n = n + 1 := Nat.min_eq_right h

/-- A cell of a list whose sum is below the ceiling gains a quantum, and so does the sum. -/
theorem sum_modify_bumpTime (cells : List Nat) (cell : Nat) (h : cells.sum < Config.timeCeiling) :
    (cells.modify cell bumpTime).sum = cells.sum + (if cell < cells.length then 1 else 0) := by
  induction cells generalizing cell with
  | nil => simp
  | cons n rest ih =>
    simp only [List.sum_cons] at h
    cases cell with
    | zero => simp [bumpTime_of_lt (by omega : n < Config.timeCeiling)]; omega
    | succ cell => simp [ih cell (by omega)]; omega

theorem cellsAtLeast_modify_bumpTime (cells : List Nat) (cell : Nat) (h : cells.sum ≤ Config.timeCeiling) :
    cellsAtLeast cells (cells.modify cell bumpTime) := by
  refine ⟨by simp, fun i => ?_⟩
  simp only [List.getD_eq_getElem?_getD, List.getElem?_modify]
  cases e : cells[i]? with
  | none => simp
  | some n =>
    have hn : n ≤ Config.timeCeiling := (List.single_le_sum (by simp) n (List.mem_of_getElem? e)).trans h
    by_cases at_ : cell = i
    · simpa [at_] using (bumpTime_bounds hn).1
    · simp [at_]

/-! ### Increments -/

theorem bump_bounds (c : StartCounts) (cls : StartClass) (h : c.bounded) :
    (c.bump cls).bounded ∧ c.cold ≤ (c.bump cls).cold ∧ c.warm ≤ (c.bump cls).warm ∧ c.hot ≤ (c.bump cls).hot
      ∧ c.unobserved ≤ (c.bump cls).unobserved := by
  obtain ⟨hcold, hwarm, hhot, hunobserved⟩ := h
  cases cls <;>
    simp [StartCounts.bump, StartCounts.bounded, bumpEvent_bounds hcold, bumpEvent_bounds hwarm, bumpEvent_bounds hhot,
      bumpEvent_bounds hunobserved, hcold, hwarm, hhot, hunobserved]

theorem quantum_lawful (b : EngineBody) (cell : Nat) (idle : Bool) (hcell : cell < 17) (h : (Body.engine b).lawful) :
    (Body.engine (b.quantum cell idle)).lawful ∧ (Body.engine b).atLeast (.engine (b.quantum cell idle)) := by
  unfold EngineBody.quantum
  split
  case isFalse => exact ⟨h, atLeast_refl _⟩
  case isTrue below =>
    obtain ⟨hstarts, hlength, hsum, hidle, hrun, hover⟩ := h
    have grown : (if idle = true then bumpTime b.idle else b.idle) ≤ b.run + 1
        ∧ b.idle ≤ if idle = true then bumpTime b.idle else b.idle := by
      split
      · rw [bumpTime_of_lt (by omega)]; omega
      · omega
    have hsum' := sum_modify_bumpTime b.cells cell (by omega)
    rw [if_pos (by omega)] at hsum'
    have hcells := cellsAtLeast_modify_bumpTime b.cells cell (by omega)
    exact ⟨⟨hstarts, by simpa using hlength, by simp only [hsum']; omega, grown.1, below, hover⟩,
      by simp, grown.2, le_rfl, le_rfl, le_rfl, le_rfl, le_rfl, hcells⟩

theorem gearTime_lawful (b : GearboxBody) (cell : Nat) (h : (Body.gearbox b).lawful) :
    (Body.gearbox (b.gearTime cell)).lawful ∧ (Body.gearbox b).atLeast (.gearbox (b.gearTime cell)) := by
  unfold GearboxBody.gearTime
  split
  case isFalse => exact ⟨h, atLeast_refl _⟩
  case isTrue below =>
    obtain ⟨hshifts, hsum, hdamage, hdrops⟩ := h
    have hsum' := sum_modify_bumpTime b.cells cell below
    exact ⟨⟨hshifts, by simp only [hsum']; split <;> omega, hdamage, hdrops⟩,
      le_rfl, cellsAtLeast_modify_bumpTime b.cells cell hsum, le_rfl, le_rfl⟩

theorem accrue_lawful (b : ClutchBody) (joules remainder : Nat) (hr : remainder < Config.energyDivisor)
    (h : (Body.clutch b).lawful) :
    (Body.clutch (b.accrue joules remainder)).lawful ∧ (Body.clutch b).atLeast (.clutch (b.accrue joules remainder)) := by
  unfold ClutchBody.accrue
  split
  case isFalse => exact ⟨h, atLeast_refl _⟩
  case isTrue =>
    obtain ⟨hengagements, hhot, henergy, _⟩ := h
    exact ⟨⟨hengagements, hhot, satAdd_le _ _ _, hr⟩, le_rfl, le_rfl, le_satAdd _ henergy⟩

theorem gearTime_residue (b : GearboxBody) (cell : Nat) : (b.gearTime cell).residue = b.residue := by
  unfold GearboxBody.gearTime
  split <;> rfl

/-- An increment counts no residue (R110 alone feeds one). -/
theorem onBody_residue (inc : Increment) (b : Body) : (inc.onBody b).residue = b.residue := by
  cases inc <;> cases b <;> try rfl
  case gearTime.gearbox cell b => exact congrArg some (gearTime_residue b cell)

theorem onBody_counts (inc : Increment) (hinc : Increment.inRange inc) (b : Body) (h : b.lawful) :
    (inc.onBody b).lawful ∧ b.atLeast (inc.onBody b) := by
  cases b with
  | engine b =>
    have ⟨hstarts, hlength, hsum, hidle, hrun, hover⟩ := h
    cases inc with
    | start cls =>
      have ⟨hb, hle⟩ := bump_bounds b.starts cls hstarts
      exact ⟨⟨hb, hlength, hsum, hidle, hrun, hover⟩, le_rfl, le_rfl, le_rfl, hle.1, hle.2.1, hle.2.2.1, hle.2.2.2,
        cellsAtLeast_refl _⟩
    | engineQuantum cell idle => exact quantum_lawful b cell idle hinc h
    | overspeed =>
      exact ⟨⟨hstarts, hlength, hsum, hidle, hrun, (bumpEvent_bounds hover).2⟩, le_rfl, le_rfl, (bumpEvent_bounds hover).1,
        le_rfl, le_rfl, le_rfl, le_rfl, cellsAtLeast_refl _⟩
    | _ => exact ⟨h, atLeast_refl _⟩
  | starter b =>
    have ⟨hattempts, hfailed, hlong, htime⟩ := h
    cases inc with
    | crankAttempt => exact ⟨⟨(bumpEvent_bounds hattempts).2, hfailed, hlong, htime⟩, (bumpEvent_bounds hattempts).1, by simp⟩
    | failedCrank => exact ⟨⟨hattempts, (bumpEvent_bounds hfailed).2, hlong, htime⟩, le_rfl, (bumpEvent_bounds hfailed).1, by simp⟩
    | longCrank => exact ⟨⟨hattempts, hfailed, (bumpEvent_bounds hlong).2, htime⟩, le_rfl, le_rfl, (bumpEvent_bounds hlong).1, le_rfl⟩
    | crankTime => exact ⟨⟨hattempts, hfailed, hlong, (bumpTime_bounds htime).2⟩, le_rfl, le_rfl, le_rfl, (bumpTime_bounds htime).1⟩
    | _ => exact ⟨h, atLeast_refl _⟩
  | clutch b =>
    have ⟨hengagements, hhot, henergy, hremainder⟩ := h
    cases inc with
    | slipEnergy joules remainder => exact accrue_lawful b joules remainder hinc h
    | clutchEngagement =>
      exact ⟨⟨(bumpEvent_bounds hengagements).2, hhot, henergy, hremainder⟩, (bumpEvent_bounds hengagements).1, by simp⟩
    | hotSlip => exact ⟨⟨hengagements, (bumpEvent_bounds hhot).2, henergy, hremainder⟩, le_rfl, (bumpEvent_bounds hhot).1, le_rfl⟩
    | _ => exact ⟨h, atLeast_refl _⟩
  | gearbox b =>
    have ⟨hshifts, hcells, hresidue⟩ := h
    cases inc with
    | gearTime cell => exact gearTime_lawful b cell h
    | shift =>
      exact ⟨⟨(bumpEvent_bounds hshifts).2, hcells, hresidue⟩, (bumpEvent_bounds hshifts).1, cellsAtLeast_refl _, by simp⟩
    | _ => exact ⟨h, atLeast_refl _⟩
  | axle b => cases inc <;> exact ⟨h, atLeast_refl _⟩
  | pto b =>
    have ⟨htime, hengagements⟩ := h
    cases inc with
    | ptoTime => exact ⟨⟨(bumpTime_bounds htime).2, hengagements⟩, (bumpTime_bounds htime).1, le_rfl⟩
    | ptoEngagement => exact ⟨⟨htime, (bumpEvent_bounds hengagements).2⟩, le_rfl, (bumpEvent_bounds hengagements).1⟩
    | _ => exact ⟨h, atLeast_refl _⟩

theorem bodyMove_onBody (tune : TuneSet) (inc : Increment) (hinc : Increment.inRange inc) (b : Body) :
    BodyMove tune b (inc.onBody b) :=
  ⟨inc.onBody_cls b, onBody_counts inc hinc b, fun _ h r hr => h r (onBody_residue inc b ▸ hr)⟩

theorem onCounts_bounded (inc : Increment) {c : Counts} (h : c.bounded) : (inc.onCounts c).bounded := by
  obtain ⟨h1, h2, h3, h4, h5, h6, h7, h8, h9, h10, h11, h12⟩ := h
  cases inc with
  | start cls => exact ⟨(bump_bounds _ cls h1).1, h2, h3, h4, h5, h6, h7, h8, h9, h10, h11, h12⟩
  | engineQuantum cell idle =>
    refine ⟨h1, h2, h3, h4, h5, h6, h7, (bumpTime_bounds h8).2, ?_, h10, h11, h12⟩
    simp only [Increment.onCounts]
    split
    · exact (bumpTime_bounds h9).2
    · exact h9
  | _ =>
    simp [Increment.onCounts, Counts.bounded, h1, h2, h3, h4, h5, h6, h7, h8, h9, h10, h11, h12, bumpEvent, bumpTime, satAdd_le]

theorem hireMove_mapCounts (s : State) (inc : Increment) : HireMove s (s.hires.mapCounts (fun c => inc.onCounts c)) := by
  refine ⟨fun h d => mapCounts_hire_none _ (h d), fun ⟨hhire, hcounts, hentries⟩ => ?_, fun h g hg => ?_⟩
  · cases e : s.hires.hire with
    | none => simpa [HireRegister.mapCounts, e, registerBounded, hentries] using onCounts_bounded inc hcounts
    | some g =>
      simpa [HireRegister.mapCounts, e, registerBounded, hcounts, hentries, hhire g e] using onCounts_bounded inc (hhire g e).1
  · rw [mapCounts_hire] at hg
    obtain ⟨k, hk, rfl⟩ := Option.map_eq_some_iff.1 hg
    exact h k hk

end Sys2Proof.Proofs
end

section
/-!
The gate leaves a lawful residue (R108). The turning points are read newest first here, as the closure reads them: whether a list alternates
does not depend on the end it is read from.
-/
namespace Sys2Proof.Proofs
open Sys2Proof Sys2Proof.Machine

/-! ### Alternating lists -/

theorem alternates_cons_cons_cons (p q r : Int) (rest : List Int) :
    alternates (p :: q :: r :: rest) = true ↔ ((p < q ∧ r < q) ∨ (q < p ∧ q < r)) ∧ alternates (q :: r :: rest) = true := by
  have sign : (q - p) * (r - q) < 0 ↔ (p < q ∧ r < q) ∨ (q < p ∧ q < r) := by
    rw [mul_neg_iff]
    omega
  simp [alternates, sign]

theorem alternates_tail {p : Int} {rest : List Int} (h : alternates (p :: rest) = true) : alternates rest = true := by
  match rest with
  | [] => rfl
  | [_] => rfl
  | _ :: _ :: _ => exact ((alternates_cons_cons_cons _ _ _ _).1 h).2

/-- Two alternating lists that overlap in two points alternate as one. -/
theorem alternates_append_overlap (xs : List Int) (p q : Int) (rest : List Int) (h : alternates (xs ++ [p, q]) = true)
    (g : alternates (p :: q :: rest) = true) : alternates (xs ++ p :: q :: rest) = true := by
  induction xs with
  | nil => exact g
  | cons x xs ih =>
    have tail := ih (alternates_tail h)
    match xs with
    | [] => exact (alternates_cons_cons_cons _ _ _ _).2 ⟨((alternates_cons_cons_cons _ _ _ _).1 h).1, tail⟩
    | [y] => exact (alternates_cons_cons_cons _ _ _ _).2 ⟨((alternates_cons_cons_cons _ _ _ _).1 h).1, tail⟩
    | y :: z :: zs => exact (alternates_cons_cons_cons _ _ _ _).2 ⟨((alternates_cons_cons_cons _ _ _ _).1 h).1, tail⟩

theorem alternates_reverse_of {l : List Int} (h : alternates l = true) : alternates l.reverse = true := by
  match l with
  | [] => rfl
  | [_] => rfl
  | [p, q] => simpa [alternates, ne_comm] using h
  | p :: q :: r :: rest =>
    have ⟨turn, tail⟩ := (alternates_cons_cons_cons _ _ _ _).1 h
    have back := alternates_reverse_of tail
    have last : alternates [r, q, p] = true := by
      rw [alternates_cons_cons_cons]
      exact ⟨by omega, by simp [alternates]; omega⟩
    have joined := alternates_append_overlap rest.reverse r q [p] (by simpa using back) last
    simpa using joined
  termination_by l.length

theorem alternates_reverse (l : List Int) : alternates l.reverse = alternates l := by
  rw [Bool.eq_iff_iff]
  exact ⟨fun h => by simpa using alternates_reverse_of h, alternates_reverse_of⟩

/-- A candidate away from the newest point alternates with it. -/
theorem alternates_cons_candidate {newest : Int} {older : List Int} {c : Candidate} (h : alternates (newest :: older) = true)
    (g : candidateGood (newest :: older) (some c) = true) : alternates (c.value :: newest :: older) = true := by
  obtain ⟨v, direction⟩ := c
  match older with
  | [] =>
    simp only [alternates, decide_eq_true_eq]
    cases direction <;> simp [candidateGood] at g <;> omega
  | o :: older =>
    refine (alternates_cons_cons_cons _ _ _ _).2 ⟨?_, h⟩
    cases direction <;> simp [candidateGood] at g <;> dsimp only <;> omega

/-! ### Closure -/

/-- Closure keeps a stack alternating, no longer than it was, and any candidate that was good for it good. -/
theorem closeLoops_lawful (p : CycleTune) (n : Nat) : ∀ stack : List Int, alternates stack = true →
    alternates (closeLoops p n stack).1 = true ∧ (closeLoops p n stack).1.length ≤ stack.length
      ∧ ∀ k, candidateGood stack k = true → candidateGood (closeLoops p n stack).1 k = true := by
  induction n with
  | zero => exact fun stack h => ⟨by simpa [closeLoops] using h, by simp [closeLoops], by simp [closeLoops]⟩
  | succ n ih =>
    intro stack h
    match stack with
    | [] => simp [closeLoops, alternates]
    | [_] => simp [closeLoops, alternates]
    | [_, _] => simpa [closeLoops] using h
    | [_, _, _] => simpa [closeLoops] using h
    | d :: c :: b :: a :: rest =>
      unfold closeLoops
      split
      case isFalse => exact ⟨h, le_rfl, fun _ g => g⟩
      case isTrue inner =>
        have ⟨first, h1⟩ := (alternates_cons_cons_cons _ _ _ _).1 h
        have ⟨second, h2⟩ := (alternates_cons_cons_cons _ _ _ _).1 h1
        unfold span at inner
        have short : alternates (d :: a :: rest) = true := by
          match rest with
          | [] => simp [alternates]; omega
          | r :: rest =>
            have ⟨third, h3⟩ := (alternates_cons_cons_cons _ _ _ _).1 h2
            exact (alternates_cons_cons_cons _ _ _ _).2 ⟨by omega, h3⟩
        obtain ⟨alt, len, good⟩ := ih (d :: a :: rest) short
        refine ⟨alt, len.trans (by simp), fun k g => good k ?_⟩
        match k with
        | none => rfl
        | some ⟨v, .rising⟩ =>
          simp only [candidateGood, Bool.and_eq_true, decide_eq_true_eq] at g ⊢
          omega
        | some ⟨v, .falling⟩ =>
          simp only [candidateGood, Bool.and_eq_true, decide_eq_true_eq] at g ⊢
          omega

/-- What a residue law says of a stack and a candidate (R108, R14). -/
def StackLawful (stack : List Int) (candidate : Option Candidate) : Prop :=
  stack.length ≤ Config.stackLimit ∧ alternates stack = true ∧ candidateGood stack.reverse candidate = true

theorem closure_lawful (p : CycleTune) {stack : List Int} {candidate : Option Candidate} (h : StackLawful stack candidate) :
    StackLawful (Machine.closure p stack).1 candidate := by
  obtain ⟨hlength, halt, hgood⟩ := h
  obtain ⟨alt, len, good⟩ := closeLoops_lawful p stack.length stack.reverse (alternates_reverse_of halt)
  exact ⟨by simpa [Machine.closure] using len.trans (by simpa using hlength), alternates_reverse_of alt,
    by simpa [Machine.closure] using good candidate hgood⟩

/-! ### The push and the gate -/

theorem pushPoint_stack_length (p : CycleTune) {stack : List Int} (v : Int) (h : stack.length ≤ Config.stackLimit) :
    (pushPoint p stack v).stack.length ≤ Config.stackLimit := by
  unfold pushPoint
  split
  · simp only [List.length_append, List.length_singleton]; omega
  · simp only [Config.stackLimit] at *
    match stack with
    | [] => simp
    | [_] => simp
    | _ :: _ :: rest => simp only [List.length_cons, List.cons_append, List.length_append, List.length_nil] at *; omega

/-- The stack after a push is the whole of the old stack, or all but its oldest point, with the new one; a stack of at most 16 points
keeps two of them below the new one where it had two. -/
theorem pushPoint_stack (p : CycleTune) (stack : List Int) (v : Int) :
    (pushPoint p stack v).stack = stack ++ [v]
      ∨ ∃ p0 p1 rest, stack = p0 :: p1 :: rest ∧ Config.stackLimit ≤ stack.length
        ∧ (pushPoint p stack v).stack = p1 :: rest ++ [v] := by
  unfold pushPoint
  split
  · exact .inl rfl
  · match stack with
    | [] => exact .inl rfl
    | [_] => exact .inl rfl
    | p0 :: p1 :: rest => exact .inr ⟨p0, p1, rest, rfl, by omega, rfl⟩

theorem candidateGood_append_of_ne_nil {newer older : List Int} (extra : List Int) (h : 2 ≤ newer.length) (e : older = newer ++ extra)
    (k : Option Candidate) : candidateGood newer k = candidateGood older k := by
  subst e
  match newer, k with
  | _, none => simp [candidateGood]
  | _ :: _ :: _, some k => rfl

/-- A candidate pushed, with the sample that turned from it the candidate the other way (R115). -/
theorem turn_lawful (p : CycleTune) {stack : List Int} {c x : Int} {direction other : Direction}
    (hne : stack ≠ []) (h : StackLawful stack (some ⟨c, direction⟩))
    (turned : ∀ newest older, stack.reverse = newest :: older → candidateGood (c :: newest :: older) (some ⟨x, other⟩) = true) :
    StackLawful (Gated.turn p stack c x other).stack (Gated.turn p stack c x other).candidate := by
  refine closure_lawful p (stack := (pushPoint p stack c).stack) (candidate := some ⟨x, other⟩) ?_
  obtain ⟨hlength, halt, hgood⟩ := h
  obtain ⟨newest, older, hrev⟩ := List.exists_cons_of_ne_nil (List.reverse_ne_nil_iff.2 hne)
  have whole : alternates (stack ++ [c]) = true := by
    rw [← alternates_reverse, List.reverse_append, hrev]
    exact alternates_cons_candidate (hrev ▸ alternates_reverse_of halt) (hrev ▸ hgood)
  have good : candidateGood (stack ++ [c]).reverse (some ⟨x, other⟩) = true := by
    rw [List.reverse_append, hrev]
    exact turned newest older hrev
  refine ⟨pushPoint_stack_length p c hlength, ?_⟩
  rcases pushPoint_stack p stack c with e | ⟨p0, p1, rest, rfl, _, e⟩ <;> rw [e]
  · exact ⟨whole, good⟩
  · refine ⟨alternates_tail whole, ?_⟩
    rw [candidateGood_append_of_ne_nil (older := (p0 :: p1 :: rest ++ [c]).reverse) [p0] (by simp) (by simp)]
    exact good

theorem extend_lawful (p : CycleTune) {stack : List Int} {x l o : Int} {rest : List Int} (hrev : stack.reverse = l :: o :: rest)
    (hlength : stack.length ≤ Config.stackLimit) (halt : alternates stack = true) (beyond : (o < l ∧ l < x) ∨ (l ≤ o ∧ x < l)) :
    StackLawful (Gated.extend p stack x).stack (Gated.extend p stack x).candidate := by
  refine closure_lawful p (stack := stack.dropLast ++ [x]) (candidate := none) ?_
  have hstack : stack = rest.reverse ++ [o, l] := by
    rw [← List.reverse_reverse stack, hrev]
    simp
  subst hstack
  refine ⟨by simpa [List.dropLast_append] using hlength, ?_, rfl⟩
  rw [← alternates_reverse]
  rw [← alternates_reverse] at halt
  simp only [List.reverse_append, List.reverse_cons, List.reverse_nil, List.nil_append, List.reverse_reverse,
    List.cons_append, List.dropLast_append_cons, List.dropLast_cons_cons, List.dropLast_singleton] at halt ⊢
  match rest with
  | [] => simp [alternates]; omega
  | r :: rest =>
    have ⟨turn, tail⟩ := (alternates_cons_cons_cons _ _ _ _).1 halt
    exact (alternates_cons_cons_cons _ _ _ _).2 ⟨by omega, tail⟩

/-- The gate leaves a lawful residue lawful (R114 to R118), for a gate of at least 1. -/
theorem gate_lawful (p : CycleTune) (hp : 1 ≤ p.gate) {stack : List Int} {candidate : Option Candidate} (x : Int)
    (h : StackLawful stack candidate) :
    StackLawful (gate p stack candidate x).stack (gate p stack candidate x).candidate := by
  have ⟨hlength, halt, hgood⟩ := h
  unfold gate
  dsimp only
  split
  case h_1 => exact ⟨by simp [Gated.keep, Config.stackLimit], rfl, rfl⟩
  case h_2 l hrev =>
    split
    · exact ⟨hlength, halt, by simp [Gated.keep, hrev, candidateGood]; omega⟩
    · split
      · exact ⟨hlength, halt, by simp [Gated.keep, hrev, candidateGood]; omega⟩
      · exact ⟨hlength, halt, rfl⟩
  case h_3 l o rest hrev =>
    have hlo : l ≠ o := by
      have alt := alternates_reverse_of halt
      rw [hrev] at alt
      match rest with
      | [] => simpa [alternates] using alt
      | _ :: _ => have := ((alternates_cons_cons_cons _ _ _ _).1 alt).1; omega
    split
    · split
      · exact extend_lawful p hrev hlength halt (by omega)
      · split
        · exact ⟨hlength, halt, by simp [Gated.keep, hrev, candidateGood]; omega⟩
        · exact ⟨hlength, halt, rfl⟩
    · split
      · exact extend_lawful p hrev hlength halt (by omega)
      · split
        · exact ⟨hlength, halt, by simp [Gated.keep, hrev, candidateGood]; omega⟩
        · exact ⟨hlength, halt, rfl⟩
  case h_4 newest older c hrev =>
    rw [hrev] at hgood
    have hne : stack ≠ [] := by rintro rfl; cases hrev
    split
    · refine ⟨hlength, halt, ?_⟩
      simp only [Gated.keep, hrev]
      cases older <;> simp [candidateGood] at hgood ⊢ <;> omega
    · split
      · refine turn_lawful p hne h (fun n o e => ?_)
        rw [hrev] at e
        cases e
        cases older <;> simp [candidateGood] at hgood ⊢ <;> omega
      · exact h
  case h_5 newest older c hrev =>
    rw [hrev] at hgood
    have hne : stack ≠ [] := by rintro rfl; cases hrev
    split
    · refine ⟨hlength, halt, ?_⟩
      simp only [Gated.keep, hrev]
      cases older <;> simp [candidateGood] at hgood ⊢ <;> omega
    · split
      · refine turn_lawful p hne h (fun n o e => ?_)
        rw [hrev] at e
        cases e
        cases older <;> simp [candidateGood] at hgood ⊢ <;> omega
      · exact h

end Sys2Proof.Proofs
end

section
/-!
What each operation of the model comes to: a chain of moves. The lemmas stand in the order of the model's files, each named after its
operation, and a command's chain is written as the model writes it: `(h.setNotice n).publish a bytes` is what `(s.setNotice n).publish a
bytes` does.
-/
namespace Sys2Proof.Proofs
open Sys2Proof Sys2Proof.Machine

section
variable {s₀ s : State}

/-! ### When the port is open -/

/-- The port of a part that the pin reset has left quiet is open with RESETn high alone; it is open wherever something of it shows that
the reset is over. -/
theorem Moves.open_of_not_quiet (h : Moves s₀ s) (stirred : s.quietInReset → s.resetLow = false) :
    s₀.quietInReset → s.resetLow = false := fun q => stirred (h.keeps_quietInReset q)

theorem Moves.open_of_held (h : Moves s₀ s) {held : Held} (e : s.scanner.held = some held) :
    s₀.quietInReset → s.resetLow = false :=
  h.open_of_not_quiet fun q => Bool.eq_false_iff.2 fun low => by
    have ⟨_, _, none_, _⟩ := q low
    simp [e] at none_

theorem Moves.open_of_dispatched (h : Moves s₀ s) {kind : SlipKind} {p : Slip} (e : s.dispatched kind = some p) :
    s₀.quietInReset → s.resetLow = false := by
  unfold State.dispatched at e
  split at e
  case h_1 held _ hheld => exact h.open_of_held hheld
  case h_2 => cases e

theorem Moves.open_of_byte (h : Moves s₀ s) {a : Nat} (e : s.byteAt a ≠ 0) : s₀.quietInReset → s.resetLow = false :=
  h.open_of_not_quiet fun q => Bool.eq_false_iff.2 fun low => by
    have ⟨empty, _⟩ := q low
    exact e (by simp [State.byteAt, memGet, empty, memRead])

/-- Once open, the port stays open: no move touches RESETn. -/
theorem Moves.open_later {t : State} (h : Moves s₀ s) (open_ : s₀.quietInReset → s.resetLow = false) (later : Moves s₀ t) :
    s₀.quietInReset → t.resetLow = false := fun q => later.resetLow.trans (h.resetLow.symm.trans (open_ q))

/-! ### One-field updates -/

theorem Moves.withLines (h : Moves s₀ s) (v : Lines) : Moves s₀ (s.withLines v) :=
  h.move (.aside v s.sensor s.board s.monitor s.duty s.draws)

theorem Moves.withSensor (h : Moves s₀ s) (v : Sensor) : Moves s₀ (s.withSensor v) :=
  h.move (.aside s.lines v s.board s.monitor s.duty s.draws)

theorem Moves.withBoard (h : Moves s₀ s) (v : Board) : Moves s₀ (s.withBoard v) :=
  h.move (.aside s.lines s.sensor v s.monitor s.duty s.draws)

theorem Moves.withMonitor (h : Moves s₀ s) (v : Monitor) : Moves s₀ (s.withMonitor v) :=
  h.move (.aside s.lines s.sensor s.board v s.duty s.draws)

theorem Moves.withDuty (h : Moves s₀ s) (v : Duty) : Moves s₀ (s.withDuty v) :=
  h.move (.aside s.lines s.sensor s.board s.monitor v s.draws)

theorem Moves.withDraws (h : Moves s₀ s) (v : Nat) : Moves s₀ (s.withDraws v) :=
  h.move (.aside s.lines s.sensor s.board s.monitor s.duty v)

theorem Moves.draw (h : Moves s₀ s) : Moves s₀ s.draw.2 := h.withDraws _

/-- A change of the supply monitor that leaves the power state. -/
theorem Moves.withSupply (h : Moves s₀ s) (v : Supply) (power : v.power = s.supply.power) : Moves s₀ (s.withSupply v) :=
  h.move (.supply v fun law off => law (power ▸ off))

/-- A change of the scanner that moves neither the cursor nor what is held. -/
theorem Moves.withScanner (h : Moves s₀ s) (v : Scanner) (held : v.held = s.scanner.held) (cursor : v.cursor = s.scanner.cursor) :
    Moves s₀ (s.withScanner v) :=
  h.move (.scanner v (.inr held.trans) fun start => cursor ▸ (h.keeps_ringLegal start).2)

/-- A change of depot control that does not enter DEPOT. -/
theorem Moves.withDepot (h : Moves s₀ s) (v : Depot) (state : v.state = .depot → s.depot.state = .depot) :
    Moves s₀ (s.withDepot v) :=
  h.move (.depot v fun d => .inl (state d))

/-- A change of the journal that leaves its pages, and of writing and the waiting slip keeps what it does not end. -/
theorem Moves.withJournal (h : Moves s₀ s) (v : Journal) (pages : v.pages = s.journal.pages)
    (newest : v.newestSequence = s.journal.newestSequence) (writing : v.writing = s.journal.writing ∨ v.writing = none)
    (waiting : s.journal.waiting = none → v.waiting = none) : Moves s₀ (s.withJournal v) :=
  h.move (.journal v pages newest writing (.inr waiting))

/-! ### Notices, exchange memory, tallies -/

theorem Moves.setNotice (h : Moves s₀ s) (n : Notice) : Moves s₀ (s.setNotice n) := by
  unfold State.setNotice
  split
  · exact h
  case isFalse high => exact h.move (.port _ (fun _ => by simpa using high) id id)

/-- Bytes written by the part, or by the host, while the port is open. -/
theorem Moves.store (h : Moves s₀ s) (a : Nat) (bytes : List Byte) (open_ : s₀.quietInReset → s.resetLow = false) :
    Moves s₀ (s.store a bytes) :=
  h.move (.port _ open_ (memPutAll_wf bytes s.port.mem a) id)

theorem Moves.publish (h : Moves s₀ s) (a : Nat) (bytes : List Byte) : Moves s₀ (s.publish a bytes) := by
  unfold State.publish
  split
  · exact h
  case isFalse high => exact h.store a bytes (fun _ => by simpa using high)

theorem Moves.publishHire (h : Moves s₀ s) : Moves s₀ s.publishHire := (h.publish _ _).publish _ _

theorem Moves.publishJournal (h : Moves s₀ s) : Moves s₀ s.publishJournal := (h.publish _ _).publish _ _

theorem Moves.publishAll (h : Moves s₀ s) : Moves s₀ s.publishAll :=
  let first := ((((h.publish _ _).publish _ _).publish _ _).publish _ _).publishHire
  let second := ((first.publish _ _).publish _ _).publish _ _
  ((second.publishJournal.publish _ _).publish _ _).publish _ _

theorem tallies_get_set (t : Tallies) (k l : Tally) (v : Nat) : (t.set k v).get l = if l = k then v else t.get l := by
  cases k <;> cases l <;> rfl

theorem Moves.bumpTally (h : Moves s₀ s) (k : Tally) : Moves s₀ (s.bumpTally k) := by
  unfold State.bumpTally
  dsimp only
  split
  · exact h
  · have tallied := h.move (.intake
      { s.intake with tallies := s.intake.tallies.set k (satAdd Config.tallyCeiling (s.intake.tallies.get k) 1) }
      (.inr id) id fun law l => by
        rw [tallies_get_set]
        split
        · exact satAdd_le _ _ _
        · exact law l)
    exact tallied.publish _ _

/-! ### The journal -/

theorem nextPage_lt (page : Nat) : nextPage page < Config.pageCount := by
  unfold nextPage
  split
  · assumption
  · decide

theorem journal_target_lt (j : Journal) : j.target < Config.pageCount := by
  unfold Journal.target
  split
  · exact nextPage_lt _
  · decide

theorem Moves.abandonWithRetry (h : Moves s₀ s) : Moves s₀ s.abandonWithRetry :=
  (h.withJournal { s.journal.abandon with retry := .running 10000 } rfl rfl (.inr rfl)
    (fun e => by simp [Journal.abandon, e])).setNotice .torn

theorem Moves.startCheckpoint (h : Moves s₀ s) : Moves s₀ s.startCheckpoint := by
  have staged := h.withJournal { s.journal with
    period := s.restartedPeriod, another := false, retry := .stopped, waiting := s.journal.waiting.map (fun _ => true) }
    rfl rfl (.inl rfl) (fun e => by simp [e])
  unfold State.startCheckpoint
  dsimp only
  split
  · exact staged.move (.beginPage ⟨_, _, false, s.snapshot⟩ ⟨.inl rfl, journal_target_lt _, fun _ _ => Nat.lt_succ_self _⟩)
  · exact staged.abandonWithRetry

theorem Moves.trigger (h : Moves s₀ s) : Moves s₀ s.trigger := by
  unfold State.trigger
  split
  · exact h.startCheckpoint
  · exact h.withJournal _ rfl rfl (.inl rfl) id

theorem Moves.journalEnterHold (h : Moves s₀ s) : Moves s₀ s.journalEnterHold := by
  unfold State.journalEnterHold
  dsimp only
  split
  · exact h.withJournal _ rfl rfl (.inr rfl) (fun e => by simp [Journal.abandon, e])
  · exact h.withJournal _ rfl rfl (.inl rfl) id

theorem Moves.journalLeaveHold (h : Moves s₀ s) : Moves s₀ s.journalLeaveHold := by
  unfold State.journalLeaveHold
  split
  · exact h.startCheckpoint
  · exact h

theorem Moves.journalEnterRun (h : Moves s₀ s) : Moves s₀ s.journalEnterRun := h.withJournal _ rfl rfl (.inl rfl) id

theorem Moves.periodTimerExpiry (h : Moves s₀ s) : Moves s₀ (periodTimerExpiry s) := by
  unfold Machine.periodTimerExpiry
  split
  · exact (h.withJournal { s.journal with period := .running (1000 * s.tune.period) } rfl rfl (.inl rfl) id).trigger
  · exact h

theorem Moves.retryTimerExpiry (h : Moves s₀ s) : Moves s₀ (retryTimerExpiry s) := by
  unfold Machine.retryTimerExpiry
  split
  · exact h.startCheckpoint
  · exact h

/-! ### Increments and damage -/

theorem Moves.landInTable (h : Moves s₀ s) (inc : Increment) (hinc : Increment.inRange inc) : Moves s₀ (s.landInTable inc) := by
  unfold State.landInTable
  split
  · exact h.move (.body _ _ fun c _ => bodyMove_onBody s.tune inc hinc c.body)
  · exact h

theorem Moves.land (h : Moves s₀ s) (inc : Increment) (hinc : Increment.inRange inc) : Moves s₀ (s.land inc) :=
  (h.landInTable inc hinc).move (.hires _ (hireMove_mapCounts _ inc))

theorem Moves.landDamages (h : Moves s₀ s) (slot : Nat) (amounts : List Nat) : Moves s₀ (s.landDamages slot amounts) := by
  induction amounts generalizing s with
  | nil => exact h
  | cons n rest ih => exact ih (h.move (.damage slot n))

/-! ### The cycle counter -/

/-- A residue settled: the stack and the candidate it gets are lawful where the gate and the old residue are. -/
theorem Moves.settle (h : Moves s₀ s) (slot : Nat) (g : Gated)
    (lawful : ∀ c r, s.slotAt slot = some c → c.body.residue = some r → gatesLegal s.tune → r.lawful →
      StackLawful g.stack g.candidate) : Moves s₀ (s.settle slot g) := by
  have moved := h.move (.body slot (Body.mapResidue (fun r =>
      { r with stack := g.stack, candidate := g.candidate, drops := satAdd Config.eventCeiling r.drops g.drops }))
    fun c hc => bodyMove_mapResidue s.tune c.body _ (fun _ hd => ⟨le_rfl, hd⟩) (fun _ hd => ⟨le_satAdd _ hd, satAdd_le _ _ _⟩)
      (fun gates r hr law => lawful c r hc hr gates law))
  unfold State.settle
  dsimp only
  split
  · exact (moved.setNotice _).landDamages _ _
  · exact moved.landDamages _ _

theorem Moves.closeOutSlot (h : Moves s₀ s) (slot : Nat) (p : CycleTune) : Moves s₀ (s.closeOutSlot slot p) := by
  unfold State.closeOutSlot
  split
  · exact h.settle _ _ fun _ _ _ _ _ _ => ⟨Nat.zero_le _, rfl, rfl⟩
  · exact h

theorem Moves.closeOutClass (h : Moves s₀ s) (cls : ComponentClass) (p : CycleTune) : Moves s₀ (s.closeOutClass cls p) := by
  unfold State.closeOutClass
  generalize s.fittedWhere _ = fitted
  induction fitted generalizing s with
  | nil => exact h
  | cons e rest ih => exact ih (h.closeOutSlot e.1 p)

theorem bumpClamped_residue (b : Body) : b.bumpClamped.residue = b.residue := by
  cases b <;> rfl

theorem bodyMove_bumpClamped (tune : TuneSet) (b : Body) : BodyMove tune b b.bumpClamped := by
  refine ⟨by cases b <;> rfl, ?_, fun _ h r hr => h r (bumpClamped_residue b ▸ hr)⟩
  cases b with
  | axle b => exact fun ⟨hclamped, h⟩ => ⟨⟨(bumpEvent_bounds hclamped).2, h⟩, (bumpEvent_bounds hclamped).1, le_rfl, le_rfl⟩
  | _ => exact fun h => ⟨h, atLeast_refl _⟩

theorem gate_pos_of_gatesLegal {tune : TuneSet} (h : gatesLegal tune) (cls : ComponentClass) : 1 ≤ (tune.cycleOf cls).gate := by
  unfold TuneSet.cycleOf
  split
  · exact h.2
  · exact h.1

theorem Moves.takeSample (h : Moves s₀ s) (x : SlotSample) : Moves s₀ (s.takeSample x) := by
  unfold State.takeSample
  split
  case h_2 => exact h
  case h_1 c hc =>
    split
    case h_2 => exact h
    case h_1 r hr =>
      have clamped : Moves s₀ (if x.clamped then s.modifyBody x.slot Body.bumpClamped else s) := by
        split
        · exact h.move (.body _ _ fun d _ => bodyMove_bumpClamped s.tune d.body)
        · exact h
      refine clamped.settle _ _ fun d q hd hq gates law => ?_
      have same : d.body.residue = some r := by
        split at hd
        · rw [slotAt_modifyBody, hc] at hd
          obtain rfl := Option.some.inj hd
          simpa [bumpClamped_residue] using hr
        · rw [hc] at hd
          obtain rfl := Option.some.inj hd
          exact hr
      obtain rfl := Option.some.inj (same.symm.trans hq)
      have tune : (if x.clamped then s.modifyBody x.slot Body.bumpClamped else s).tune = s.tune := by split <;> rfl
      exact gate_lawful _ (gate_pos_of_gatesLegal (tune ▸ gates) _) _ law

theorem Moves.takeSamples (h : Moves s₀ s) (samples : List SlotSample) : Moves s₀ (samples.foldl State.takeSample s) := by
  induction samples generalizing s with
  | nil => exact h
  | cons x rest ih => exact ih (h.takeSample x)

theorem Moves.takeWaiting (h : Moves s₀ s) (p : SlotSample → Bool) : Moves s₀ (s.takeWaiting p) := by
  unfold State.takeWaiting
  split
  case isTrue run => exact (h.move (.samples _ run)).takeSamples _
  case isFalse => exact h

theorem Moves.cycleHandOn (h : Moves s₀ s) : Moves s₀ s.cycleHandOn := by
  unfold State.cycleHandOn
  split
  case isTrue run => exact h.move (.samples _ run.1)
  case isFalse => exact h

theorem Moves.sampleAtSlot (h : Moves s₀ s) (slot : Fin 8) : Moves s₀ (sampleAtSlot slot s) := by
  unfold Machine.sampleAtSlot
  split
  · split
    case isTrue run => exact (h.move (.samples _ run)).takeSample _
    case isFalse => exact h
  · exact h

end

end Sys2Proof.Proofs
end

section
namespace Sys2Proof.Proofs
open Sys2Proof Sys2Proof.Machine

section
variable {s₀ s : State}

/-! ### The start monitor -/

theorem Moves.depotAutoLeave (h : Moves s₀ s) : Moves s₀ s.depotAutoLeave := by
  unfold State.depotAutoLeave
  split
  · exact (((h.withDepot { s.depot with state := .normal, timer := .stopped } nofun).publish _ _).setNotice _).trigger
  · exact h

theorem Moves.warn (h : Moves s₀ s) : Moves s₀ s.warn :=
  ((h.withSupply { s.supply with filter := .stopped, armed := false } rfl).setNotice _).trigger

theorem Moves.filterAfterCrank (h : Moves s₀ s) : Moves s₀ s.filterAfterCrank := by
  unfold State.filterAfterCrank
  split
  · split
    · exact h.warn
    · split
      · dsimp only
        split
        · exact h.draw.warn
        · exact h.draw
      · exact h
  · exact h

theorem Moves.closeWindow (h : Moves s₀ s) : Moves s₀ s.closeWindow := by
  unfold State.closeWindow
  split
  · dsimp only
    split
    · exact ((h.withDuty _).land .hotSlip trivial).setNotice _
    · exact h.withDuty _
  · exact h

theorem Moves.dutyLeavesRunning (h : Moves s₀ s) : Moves s₀ s.dutyLeavesRunning := h.closeWindow.withDuty _

theorem Moves.countStart (h : Moves s₀ s) : Moves s₀ s.countStart := h.land _ trivial

theorem Moves.leaveStart (h : Moves s₀ s) : Moves s₀ s.leaveStart := by
  unfold State.leaveStart
  split
  · exact h.withSupply { s.supply with doze := .stopped } rfl
  · exact h
  · exact (h.withMonitor _).filterAfterCrank
  · exact h.withMonitor _
  · exact (h.withMonitor _).dutyLeavesRunning

theorem Moves.setStart (h : Moves s₀ s) (st : StartState) : Moves s₀ (s.setStart st) := (h.withMonitor _).publish _ _

theorem Moves.offEntered (h : Moves s₀ s) : Moves s₀ s.offEntered := by
  unfold State.offEntered
  dsimp only
  split
  · exact (h.withSupply { s.supply with doze := .running 30000 } rfl).trigger
  · exact h.trigger

theorem Moves.moveStart (h : Moves s₀ s) (st : StartState) : Moves s₀ (s.moveStart st) := by
  unfold State.moveStart
  dsimp only
  split
  · exact (h.leaveStart.setStart st).offEntered
  · exact h.leaveStart.setStart st

theorem Moves.confirmStop (h : Moves s₀ s) : Moves s₀ s.confirmStop := (h.withMonitor _).moveStart _

theorem Moves.reactRunning (h : Moves s₀ s) : Moves s₀ s.reactRunning := by
  unfold State.reactRunning
  split
  · split
    · exact h.withMonitor _
    · exact h.confirmStop
  · split
    · split
      · exact h
      · exact h.withMonitor _
    · exact h.withMonitor _

theorem Moves.enterRunning (h : Moves s₀ s) : Moves s₀ s.enterRunning := (h.moveStart _).reactRunning

theorem Moves.reactIdle (h : Moves s₀ s) : Moves s₀ s.reactIdle := by
  unfold State.reactIdle
  split
  · dsimp only
    split
    · exact (h.moveStart _).depotAutoLeave.reactRunning
    · exact ((h.land (.start .unobserved) trivial).moveStart _).depotAutoLeave.reactRunning
  · exact h

theorem Moves.enterIdle (h : Moves s₀ s) (st : StartState) : Moves s₀ (s.enterIdle st) := (h.moveStart st).reactIdle

theorem Moves.startRunning (h : Moves s₀ s) : Moves s₀ s.startRunning := h.countStart.enterRunning

theorem Moves.enterCatching (h : Moves s₀ s) : Moves s₀ s.enterCatching := by
  unfold State.enterCatching
  dsimp only
  split
  · exact ((h.moveStart _).withMonitor _).startRunning
  · exact (h.moveStart _).withMonitor _

theorem Moves.enterCranking (h : Moves s₀ s) (source : CrankSource) : Moves s₀ (s.enterCranking source) :=
  (((h.land .crankAttempt trivial).moveStart _).withMonitor _).depotAutoLeave

theorem Moves.failCrank (h : Moves s₀ s) : Moves s₀ s.failCrank := h.land .failedCrank trivial

theorem Moves.react (h : Moves s₀ s) : Moves s₀ s.react := by
  unfold State.react
  split
  · exact h.reactIdle
  · exact h.reactIdle
  · split
    · exact h.withMonitor _
    · exact h
  · split
    · exact h.startRunning
    · exact h
  · exact h.reactRunning

/-- An event at the monitor is a chain of moves where its meaning is one. -/
theorem Moves.atMonitor (h : Moves s₀ s) {f : State → State} (event : Moves s₀ (f s)) : Moves s₀ (s.atMonitor f) := by
  unfold State.atMonitor
  split
  · exact h
  · exact event

theorem Moves.speedHandOn (h : Moves s₀ s) : Moves s₀ s.speedHandOn := by
  refine h.atMonitor ?_
  dsimp only
  split
  · exact h.react.withMonitor _
  · exact h.react

theorem Moves.monitorIgnRise (h : Moves s₀ s) : Moves s₀ s.monitorIgnRise := by
  refine h.atMonitor ?_
  split
  · exact h.enterIdle _
  · exact h

theorem Moves.ignFallNow (h : Moves s₀ s) : Moves s₀ s.ignFallNow := by
  unfold State.ignFallNow
  split
  · exact h
  · exact h.enterIdle _
  · exact h.failCrank.enterIdle _
  · exact h.failCrank.enterIdle _
  · split
    · exact h
    · exact h.confirmStop

theorem Moves.evidenceBegins (h : Moves s₀ s) (source : CrankSource) : Moves s₀ (s.evidenceBegins source) := by
  unfold State.evidenceBegins
  split
  · exact h.enterCranking source
  · exact h.failCrank.enterCranking source
  · exact h

theorem Moves.evidenceEnds (h : Moves s₀ s) (source : CrankSource) : Moves s₀ (s.evidenceEnds source) := by
  unfold State.evidenceEnds
  split
  · have cleared := h.withMonitor { s.monitor with evidence := none }
    dsimp only
    split
    · split
      · exact cleared.startRunning
      · exact cleared.enterCatching
    · exact cleared
  · exact h

theorem Moves.monitorIgnFall (h : Moves s₀ s) : Moves s₀ s.monitorIgnFall := h.atMonitor h.ignFallNow

theorem Moves.monitorCrankRise (h : Moves s₀ s) : Moves s₀ s.monitorCrankRise := by
  refine h.atMonitor ?_
  split
  · exact h.evidenceBegins _
  · exact h

theorem Moves.monitorCrankFall (h : Moves s₀ s) : Moves s₀ s.monitorCrankFall := h.atMonitor (h.evidenceEnds _)

theorem Moves.monitorDip (h : Moves s₀ s) : Moves s₀ s.monitorDip := by
  refine h.atMonitor ?_
  split
  · exact h.evidenceBegins _
  · exact h

theorem Moves.monitorRecovery (h : Moves s₀ s) : Moves s₀ s.monitorRecovery := h.atMonitor (h.evidenceEnds _)

theorem Moves.monitorEnterHold (h : Moves s₀ s) : Moves s₀ s.monitorEnterHold := by
  unfold State.monitorEnterHold
  split
  · exact (h.withMonitor _).setStart _
  · exact h.withMonitor _
  · exact h.withMonitor _
  · exact h
  · exact h

theorem Moves.judgeHeldCrank (h : Moves s₀ s) : Moves s₀ s.judgeHeldCrank := by
  unfold State.judgeHeldCrank
  split
  · dsimp only
    split
    · exact (h.withMonitor _).startRunning
    · exact h.withMonitor _
  · exact h

theorem Moves.rereadIgn (h : Moves s₀ s) : Moves s₀ s.rereadIgn := by
  unfold State.rereadIgn
  split
  · split
    · exact h.enterIdle _
    · exact h
  · exact h.ignFallNow

theorem Moves.monitorLeaveHold (h : Moves s₀ s) : Moves s₀ s.monitorLeaveHold :=
  (h.judgeHeldCrank.withMonitor _).rereadIgn.react

theorem Moves.longCrank (h : Moves s₀ s) : Moves s₀ (longCrank s) := by
  unfold Machine.longCrank
  split
  · exact ((h.land .longCrank trivial).withMonitor _).setNotice _
  · exact h

theorem Moves.catchTimerExpiry (h : Moves s₀ s) : Moves s₀ (catchTimerExpiry s) := by
  unfold Machine.catchTimerExpiry
  split
  · exact h.failCrank.enterIdle _
  · exact h

theorem Moves.stopTimerExpiry (h : Moves s₀ s) : Moves s₀ (stopTimerExpiry s) := by
  unfold Machine.stopTimerExpiry
  split
  · exact h.confirmStop.reactIdle
  · exact h

/-! ### The quantity board -/

theorem Moves.putRecord (h : Moves s₀ s) (q : Quantity) (r : QRecord) : Moves s₀ (s.putRecord q r) :=
  (h.withBoard _).publish _ _

theorem Moves.refresh (h : Moves s₀ s) (q : Quantity) (v : Int) (source : Source) : Moves s₀ (s.refresh q v source) :=
  h.putRecord q _

theorem Moves.dutyGear (h : Moves s₀ s) : Moves s₀ s.dutyGear := by
  unfold State.dutyGear
  split
  · dsimp only
    split
    · exact h.withDuty _
    · split
      · exact h
      · split
        · exact (h.land .shift trivial).withDuty _
        · exact h.withDuty _
  · exact h

theorem Moves.gearHandOn (h : Moves s₀ s) : Moves s₀ s.gearHandOn := h.cycleHandOn.dutyGear

theorem Moves.putGear (h : Moves s₀ s) (r : QRecord) : Moves s₀ (s.putGear r) := by
  unfold State.putGear
  dsimp only
  split
  · exact (h.putRecord _ _).gearHandOn
  · exact h.putRecord _ _

theorem Moves.evaluateGear (h : Moves s₀ s) : Moves s₀ s.evaluateGear := by
  unfold State.evaluateGear
  dsimp only
  split
  · exact h.putGear _
  · exact h

theorem Moves.clutchHandOn (h : Moves s₀ s) : Moves s₀ s.clutchHandOn := h.cycleHandOn.evaluateGear

theorem Moves.putClutch (h : Moves s₀ s) (r : QRecord) : Moves s₀ (s.putClutch r) := by
  unfold State.putClutch
  dsimp only
  split
  · exact (h.putRecord _ _).clutchHandOn
  · exact h.putRecord _ _

theorem Moves.applySample (h : Moves s₀ s) (q : Quantity) (v : Int) (source : Source) : Moves s₀ (s.applySample q v source) := by
  unfold State.applySample
  split
  · exact (h.refresh _ _ _).speedHandOn
  · exact (h.refresh _ _ _).evaluateGear
  · exact (h.refresh _ _ _).evaluateGear
  · exact h.refresh _ _ _
  · exact (h.refresh _ _ _).cycleHandOn
  · exact h.refresh _ _ _
  · exact h.putClutch _
  · exact h.putGear _

theorem Moves.presentClutch (h : Moves s₀ s) : Moves s₀ s.presentClutch := by
  unfold State.presentClutch
  split
  · exact h.applySample _ _ _
  · exact h

theorem Moves.castShadow (h : Moves s₀ s) (target : RouteTarget) (v : Int) : Moves s₀ (s.castShadow target v) := by
  unfold State.castShadow
  dsimp only
  split
  · exact h.withBoard _
  · exact h.withBoard _
  · exact h.withBoard _
  · exact h
  · exact h
  · exact h

theorem Moves.deliverFrame (h : Moves s₀ s) (target : RouteTarget) (v : Int) : Moves s₀ (s.deliverFrame target v).2 := by
  unfold State.deliverFrame
  split
  · exact h
  · generalize (if target = .gear then s.tune.gearbox.store v else v) = stored
    dsimp only
    split
    · exact (h.castShadow _ _).applySample _ _ _
    · exact h.castShadow _ _

theorem Moves.freshTimerExpiry (h : Moves s₀ s) (q : Quantity) : Moves s₀ (freshTimerExpiry q s) := by
  unfold Machine.freshTimerExpiry
  dsimp only
  split
  · split
    · exact (h.putRecord _ _).speedHandOn
    · exact h.putRecord _ _
  · exact h

theorem Moves.loseQuantity (h : Moves s₀ s) (q : Quantity) : Moves s₀ (s.loseQuantity q) := by
  have lost := (h.putRecord q .unknown).setNotice .quantity
  unfold State.loseQuantity
  split
  · exact lost.speedHandOn
  · exact lost.clutchHandOn
  · exact lost.gearHandOn
  · exact lost

theorem Moves.heldTimerExpiry (h : Moves s₀ s) (q : Quantity) : Moves s₀ (heldTimerExpiry q s) := by
  unfold Machine.heldTimerExpiry
  split
  · exact h.loseQuantity q
  · exact h

theorem Moves.publishRecords (h : Moves s₀ s) (changed : List Quantity) : Moves s₀ (s.publishRecords changed) := by
  induction changed generalizing s with
  | nil => exact h
  | cons q rest ih => exact ih (h.publish _ _)

theorem Moves.boardEnterDoze (h : Moves s₀ s) : Moves s₀ s.boardEnterDoze := by
  have emptied := (h.withBoard .powerOn).publishRecords (allQuantities.filter (fun q => (s.board.get q).known))
  unfold State.boardEnterDoze
  dsimp only
  split
  · split
    · exact emptied.speedHandOn
    · exact (emptied.setNotice _).speedHandOn
  · split
    · exact emptied
    · exact emptied.setNotice _

theorem Moves.substituteSlipping (h : Moves s₀ s) : Moves s₀ s.substituteSlipping := by
  unfold State.substituteSlipping
  dsimp only
  split
  · exact h.putGear _
  · exact h

/-! ### The duty meter -/

theorem Moves.meterPto (h : Moves s₀ s) : Moves s₀ s.meterPto := by
  unfold State.meterPto
  dsimp only
  split
  · exact h
  · split
    · split
      · exact (h.land .ptoTime trivial).withDuty _
      · exact ((h.land .ptoEngagement trivial).land .ptoTime trivial).withDuty _
    · exact h.withDuty _

theorem Moves.meterOverspeed (h : Moves s₀ s) : Moves s₀ s.meterOverspeed := by
  unfold State.meterOverspeed
  dsimp only
  split
  · exact h.withDuty _
  · split
    · split
      · split
        · exact h.withDuty _
        · split
          · exact h.withDuty _
          · exact ((h.land .overspeed trivial).withDuty _).setNotice _
      · exact h
    · exact h.withDuty _

theorem energyRemainder_inRange (p : Nat) : Increment.inRange (.slipEnergy (p / Config.energyDivisor) (p % Config.energyDivisor)) :=
  Nat.mod_lt _ (by decide)

theorem Moves.meterSlip (h : Moves s₀ s) : Moves s₀ s.meterSlip := by
  unfold State.meterSlip
  split
  · split
    · dsimp only
      split
      · exact h.land _ (energyRemainder_inRange _)
      · exact (h.land _ (energyRemainder_inRange _)).withDuty _
    · exact h
  · exact h

theorem Moves.advanceWindow (h : Moves s₀ s) (w : Engagement) (joules : Nat) : Moves s₀ (s.advanceWindow w joules) := by
  unfold State.advanceWindow
  dsimp only
  split
  · exact (h.withDuty _).closeWindow
  · exact h.withDuty _

theorem Moves.meterWindow (h : Moves s₀ s) (joules : Nat) : Moves s₀ (s.meterWindow joules) := by
  unfold State.meterWindow
  split
  · exact (h.land .clutchEngagement trivial).closeWindow.withDuty _
  · split
    · exact h.advanceWindow _ _
    · exact h

theorem bandOf_lt (v l1 l2 l3 : Int) : bandOf v l1 l2 l3 < 4 := by
  unfold bandOf
  split
  · decide
  · split
    · decide
    · split <;> decide

/-- The load-band cell is one of the seventeen (R93). -/
theorem loadCell_lt (s : State) : s.loadCell < 17 := by
  unfold State.loadCell
  dsimp only
  split
  · have := bandOf_lt s.board.engineSpeed.value s.tune.engine.s1 s.tune.engine.s2 s.tune.engine.s3
    have := bandOf_lt s.board.engineTorque.value s.tune.engine.t1 s.tune.engine.t2 s.tune.engine.t3
    omega
  · decide

theorem Moves.meter (h : Moves s₀ s) : Moves s₀ s.meter :=
  have ran := (h.land (.engineQuantum s.loadCell s.idling) (loadCell_lt s)).land (.gearTime s.gearCell) trivial
  ran.meterPto.meterOverspeed.meterSlip.meterWindow _

theorem Moves.quantumExpiry (h : Moves s₀ s) : Moves s₀ (quantumExpiry s) := by
  unfold Machine.quantumExpiry
  split
  · dsimp only
    split
    · exact h.meter.withDuty _
    · exact (h.land .crankTime trivial).withDuty _
    · exact h.withDuty _
  · exact h

end

end Sys2Proof.Proofs
end

section
namespace Sys2Proof.Proofs
open Sys2Proof Sys2Proof.Machine

/-! ### Channels by name -/

theorem pulse_get_set (p : Pulse) (ch c : Channel) (v : ChannelState) : (p.set ch v).get c = if c = ch then v else p.get c := by
  cases ch <;> cases c <;> rfl

theorem pulse_get_each (p : Pulse) (f : ChannelState → ChannelState) (ch : Channel) : (p.each f).get ch = f (p.get ch) := by
  cases ch <;> rfl

theorem pulse_get_withWindows (p : Pulse) (v : Bool) (ch : Channel) : ({ p with windows := v } : Pulse).get ch = p.get ch := by
  cases ch <;> rfl

/-- A channel's law reads its counter and its health alone (R47). -/
theorem sound_congr {limit : Nat} {c d : ChannelState} (counter : d.counter = c.counter) (health : d.health = c.health)
    (h : c.sound limit) : d.sound limit := by
  unfold ChannelState.sound at *
  rw [counter, health]
  exact h

/-- The table of R47 keeps a channel's counter in agreement with its health. -/
theorem stepFault_sound {limit : Nat} {c : ChannelState} (bad : Bool) (legal : 1 ≤ limit) (h : c.sound limit) :
    ({ c with counter := (stepFault limit c.counter c.health bad).1, health := (stepFault limit c.counter c.health bad).2 } :
      ChannelState).sound limit := by
  unfold ChannelState.sound at h
  cases e : c.health <;> cases bad <;> simp only [e] at h <;> simp only [stepFault, ChannelState.sound]
  · omega
  · by_cases k : c.counter + 1 = limit <;> simp only [k, if_true, if_false] <;> omega
  · by_cases k : c.counter - 1 = 0 <;> simp only [k, if_true, if_false] <;> omega
  · omega

/-- A counter brought down to a lower limit agrees with its channel's health (R49). -/
theorem lowered_sound {limit old : Nat} {c : ChannelState} (legal : 1 ≤ limit) (h : c.sound old) :
    ({ c with counter := min limit c.counter, health := if min limit c.counter = limit then .faulted else c.health } :
      ChannelState).sound limit := by
  unfold ChannelState.sound at *
  dsimp only
  by_cases k : min limit c.counter = limit
  · simp only [k, if_true]; omega
  · simp only [k, if_false]
    cases e : c.health <;> simp only [e] at h ⊢ <;> omega

/-- A channel within its limit is within a higher one. -/
theorem sound_mono {limit old : Nat} {c : ChannelState} (le : old ≤ limit) (h : c.sound old) : c.sound limit := by
  unfold ChannelState.sound at *
  cases e : c.health <;> simp only [e] at h ⊢ <;> omega

section
variable {s₀ s : State}

/-! ### The sensor supply and the windows -/

/-- A change of the channels that moves no counter and no health. -/
theorem Moves.withPulse (h : Moves s₀ s) (v : Pulse)
    (same : ∀ ch, (v.get ch).counter = (s.pulse.get ch).counter ∧ (v.get ch).health = (s.pulse.get ch).health) :
    Moves s₀ (s.withPulse v) :=
  h.move (.pulse v fun _ ch => sound_congr (same ch).1 (same ch).2)

theorem Moves.setSensor (h : Moves s₀ s) (v : Sensor) : Moves s₀ (s.setSensor v) := by
  unfold State.setSensor
  dsimp only
  split
  · exact (h.withSensor v).withPulse _ fun ch => by simp [pulse_get_each]
  · exact h.withSensor v

theorem Moves.sensorRest (h : Moves s₀ s) : Moves s₀ s.sensorRest := by
  unfold State.sensorRest
  split
  · exact h
  · exact h.setSensor _

theorem Moves.sensorEnterRun (h : Moves s₀ s) : Moves s₀ s.sensorEnterRun := by
  unfold State.sensorEnterRun
  split
  · split
    · exact h.setSensor _
    · exact h.setSensor _
  · exact h

theorem Moves.sensorIgnRise (h : Moves s₀ s) : Moves s₀ s.sensorIgnRise := by
  unfold State.sensorIgnRise
  split
  · split
    · exact h.setSensor _
    · exact h.setSensor _
  · exact h

theorem Moves.faultAll (h : Moves s₀ s) : Moves s₀ s.faultAll := by
  have faulted := h.move (.pulse (s.pulse.each (fun c => { c with counter := s.tune.pulse.limit, health := .faulted }))
    fun legal ch _ => by rw [pulse_get_each]; exact ⟨legal, le_rfl⟩)
  unfold State.faultAll
  dsimp only
  split
  · exact faulted.setNotice _
  · exact faulted

theorem Moves.sensorSupplyShort (h : Moves s₀ s) : Moves s₀ (sensorSupplyShort s) := by
  unfold Machine.sensorSupplyShort
  split
  · exact (h.setSensor _).faultAll.setNotice _
  · split
    · exact (h.setSensor _).setNotice _
    · exact h.setSensor _
  · exact h

theorem Moves.offTimerExpiry (h : Moves s₀ s) : Moves s₀ (offTimerExpiry s) := by
  unfold Machine.offTimerExpiry
  split
  · exact h.setSensor _
  · exact h

theorem Moves.trialTimerExpiry (h : Moves s₀ s) : Moves s₀ (trialTimerExpiry s) := by
  unfold Machine.trialTimerExpiry
  split
  · exact h.setSensor _
  · exact h

theorem Moves.startWindows (h : Moves s₀ s) : Moves s₀ s.startWindows :=
  h.withPulse _ fun ch => by rw [pulse_get_withWindows, pulse_get_each]; exact ⟨rfl, rfl⟩

theorem Moves.abandonWindows (h : Moves s₀ s) : Moves s₀ s.abandonWindows :=
  h.withPulse _ fun ch => by rw [pulse_get_withWindows, pulse_get_each]; exact ⟨rfl, rfl⟩

/-- One channel's edges or mark changed. -/
theorem Moves.setChannel (h : Moves s₀ s) (ch : Channel) (v : ChannelState) (counter : v.counter = (s.pulse.get ch).counter)
    (health : v.health = (s.pulse.get ch).health) : Moves s₀ (s.withPulse (s.pulse.set ch v)) :=
  h.withPulse _ fun c => by
    rw [pulse_get_set]
    split
    · subst c; exact ⟨counter, health⟩
    · exact ⟨rfl, rfl⟩

theorem Moves.pulseEdge (h : Moves s₀ s) (ch : Channel) : Moves s₀ (pulseEdge ch s) := by
  unfold Machine.pulseEdge
  split
  · exact h.setChannel ch _ rfl rfl
  · exact h

theorem Moves.shadowFresh (h : Moves s₀ s) (shadow : Option Shadow) : Moves s₀ (s.shadowFresh shadow).2 := by
  unfold State.shadowFresh
  split
  · exact h
  · split
    · exact h
    · split
      · exact h.draw
      · exact h

theorem Moves.zeroCountTest (h : Moves s₀ s) (ch : Channel) : Moves s₀ (s.zeroCountTest ch).2 := by
  unfold State.zeroCountTest
  split
  · split
    · exact h.shadowFresh _
    · exact h
  · split
    · exact h.shadowFresh _
    · exact h
  · split
    · exact h.shadowFresh _
    · exact h
  · exact h

theorem Moves.implausible (h : Moves s₀ s) (ch : Channel) : Moves s₀ (s.implausible ch).2 := by
  unfold State.implausible
  dsimp only
  split
  · exact h
  · split
    · exact h
    · split
      · exact h.zeroCountTest ch
      · exact h

theorem Moves.stepChannel (h : Moves s₀ s) (ch : Channel) (bad : Bool) : Moves s₀ (s.stepChannel ch bad) := by
  have stepped := h.move (.pulse (s.pulse.set ch { s.pulse.get ch with
      counter := (stepFault s.tune.pulse.limit (s.pulse.get ch).counter (s.pulse.get ch).health bad).1
      health := (stepFault s.tune.pulse.limit (s.pulse.get ch).counter (s.pulse.get ch).health bad).2 })
    fun legal c law => by
      rw [pulse_get_set]
      split
      · subst c; exact stepFault_sound bad legal law
      · exact law)
  unfold State.stepChannel
  dsimp only
  split
  · exact stepped.setNotice _
  · exact stepped

theorem Moves.offerSpeed (h : Moves s₀ s) (ch : Channel) : Moves s₀ (s.offerSpeed ch) := by
  unfold State.offerSpeed
  dsimp only
  split
  · exact h.applySample _ _ _
  · exact h

theorem Moves.windowEnd (h : Moves s₀ s) (ch : Channel) : Moves s₀ (windowEnd ch s) := by
  have offered := ((h.implausible ch).stepChannel ch (s.implausible ch).1).offerSpeed ch
  unfold Machine.windowEnd
  split
  · dsimp only
    split
    · exact offered.presentClutch.setChannel ch _ rfl rfl
    · exact offered.setChannel ch _ rfl rfl
  · exact h

/-! ### Entries to the power states -/

/-- The power state is set; outside RUN no sample may wait. -/
theorem Moves.setPower (h : Moves s₀ s) (p : PowerState) (rest : s.samplesLaw → p ≠ .run → s.samples = []) :
    Moves s₀ (s.setPower p) :=
  (h.move (.supply { s.supply with power := p } rest)).publish _ _

theorem Moves.stopRunTimers (h : Moves s₀ s) : Moves s₀ s.stopRunTimers := (h.withDuty _).withScanner _ rfl rfl

theorem Moves.dozeEnterRun (h : Moves s₀ s) : Moves s₀ s.dozeEnterRun := h.withSupply _ rfl

theorem Moves.enterRun (h : Moves s₀ s) : Moves s₀ s.enterRun := by
  have begun := (h.setPower .run fun _ off => absurd rfl off).sensorEnterRun.startWindows
  exact .journalEnterRun (.dozeEnterRun (.withSupply (.withScanner (begun.withDuty _) _ (by rfl) (by rfl)) _ (by rfl)))

theorem Moves.enterDoze (h : Moves s₀ s) (rest : s.samplesLaw → s.samples = []) : Moves s₀ s.enterDoze := by
  have rested := (h.setPower .doze fun law _ => rest law).stopRunTimers.abandonWindows.sensorRest
  exact .boardEnterDoze (.withJournal (.withSupply rested _ (by rfl)) _ (by rfl) (by rfl) (.inl (by rfl)) (by exact id))

theorem Moves.enterHold (h : Moves s₀ s) (rest : s.samplesLaw → s.samples = []) : Moves s₀ s.enterHold := by
  have first := h.withSupply { s.supply with
    prior := s.supply.power, filter := .stopped, rearm := .stopped, dwell := .stopped, doze := s.supply.doze.freeze } rfl
  have second := (first.setPower .hold fun law _ => rest law).setNotice .hold
  exact second.stopRunTimers.abandonWindows.sensorRest.monitorEnterHold.journalEnterHold

theorem Moves.rejudgeWarning (h : Moves s₀ s) : Moves s₀ s.rejudgeWarning := by
  unfold State.rejudgeWarning
  split
  · exact h.withSupply _ rfl
  · split
    · exact h.withSupply _ rfl
    · exact h

/-- The part leaves HOLD, where no sample waits. -/
theorem Moves.leaveHold (h : Moves s₀ s) (hold : s.supply.power = .hold) : Moves s₀ s.leaveHold := by
  have rested := h.withSupply { s.supply with dwell := .stopped } rfl
  unfold State.leaveHold
  dsimp only
  split
  · have entered := rested.enterDoze fun law => law (by simp [hold])
    exact entered.monitorLeaveHold.rejudgeWarning.journalLeaveHold
  · exact rested.enterRun.monitorLeaveHold.rejudgeWarning.journalLeaveHold

/-! ### The battery, the timers and recorder time -/

theorem Moves.measure (h : Moves s₀ s) (mv : Nat) : Moves s₀ (s.measure mv) := h.withSupply _ rfl

theorem Moves.batteryBelowCrankDip (h : Moves s₀ s) (mv : Nat) : Moves s₀ (batteryBelowCrankDip mv s) := by
  unfold Machine.batteryBelowCrankDip
  dsimp only
  split
  · exact ((h.measure mv).withSupply { (s.measure mv).supply with dipped := true } rfl).monitorDip
  · exact h.measure mv

theorem Moves.batteryAboveDipRecovery (h : Moves s₀ s) (mv : Nat) : Moves s₀ (batteryAboveDipRecovery mv s) := by
  unfold Machine.batteryAboveDipRecovery
  dsimp only
  split
  · exact ((h.measure mv).withSupply { (s.measure mv).supply with dipped := false } rfl).monitorRecovery
  · exact h.measure mv

theorem Moves.batteryBelowWarning (h : Moves s₀ s) (mv : Nat) : Moves s₀ (batteryBelowWarning mv s) := by
  unfold Machine.batteryBelowWarning
  dsimp only
  split
  · split
    · split
      · exact h.measure mv
      · exact (h.measure mv).withSupply _ rfl
    · exact (h.measure mv).withSupply _ rfl
  · exact h.measure mv

theorem Moves.batteryAboveWarning (h : Moves s₀ s) (mv : Nat) : Moves s₀ (batteryAboveWarning mv s) := by
  unfold Machine.batteryAboveWarning
  dsimp only
  split
  · exact (h.measure mv).withSupply _ rfl
  · exact h.measure mv

theorem Moves.warningFilterExpiry (h : Moves s₀ s) : Moves s₀ (warningFilterExpiry s) := by
  unfold Machine.warningFilterExpiry
  split
  · exact h.warn
  · exact h

theorem Moves.rearmTimerExpiry (h : Moves s₀ s) : Moves s₀ (rearmTimerExpiry s) := by
  unfold Machine.rearmTimerExpiry
  split
  · exact h.withSupply _ rfl
  · exact h

theorem Moves.batteryBelowStop (h : Moves s₀ s) (mv : Nat) : Moves s₀ (batteryBelowStop mv s) := by
  unfold Machine.batteryBelowStop
  split
  · refine ((h.takeWaiting _).measure mv).enterHold fun law => ?_
    by_cases run : s.supply.power = .run
    · simp [State.measure, State.takeWaiting_samples s _ run]
    · exact law (by simpa [State.measure, State.takeAllWaiting, State.takeWaiting_rest s _ run] using run)
  · exact h.measure mv

theorem Moves.batteryAboveRestart (h : Moves s₀ s) (mv : Nat) : Moves s₀ (batteryAboveRestart mv s) := by
  unfold Machine.batteryAboveRestart
  dsimp only
  split
  · split
    · split
      · exact h.measure mv
      · exact (h.measure mv).withSupply _ rfl
    · exact (h.measure mv).withSupply _ rfl
  · exact h.measure mv

theorem Moves.restartDwellExpiry (h : Moves s₀ s) : Moves s₀ (restartDwellExpiry s) := by
  unfold Machine.restartDwellExpiry
  split
  case isTrue held => exact h.leaveHold held.1
  case isFalse => exact h

theorem Moves.dozeTimerExpiry (h : Moves s₀ s) : Moves s₀ (dozeTimerExpiry s) := by
  unfold Machine.dozeTimerExpiry
  split
  case isTrue due =>
    split
    · exact h.withSupply _ rfl
    · exact (h.takeWaiting _).enterDoze fun _ => by simp [State.takeWaiting_samples s _ due.1]
  case isFalse => exact h

theorem passQuantum_eq (s : State) : s.passQuantum =
    (((({ s with
      board := s.board.countUp
      monitor := { s.monitor with
        crankTimer := s.monitor.crankTimer.countUp
        catchTimer := s.monitor.catchTimer.countDown
        stopTimer := s.monitor.stopTimer.countDown }
      sensor := { s.sensor with
        offTimer := s.sensor.offTimer.countDown, trialTimer := s.sensor.trialTimer.countDown } }.withSupply { s.supply with
      filter := s.supply.filter.countUp
      rearm := s.supply.rearm.countDown
      dwell := s.supply.dwell.countDown
      doze := s.supply.doze.countDown }).withScanner { s.scanner with selfPoll := s.scanner.selfPoll.countDown }).withDepot
      { s.depot with timer := s.depot.timer.countDown }).withJournal
      { s.journal with period := s.journal.period.countDown, retry := s.journal.retry.countDown }) := rfl

theorem Moves.passQuantum (h : Moves s₀ s) : Moves s₀ s.passQuantum := by
  rw [passQuantum_eq]
  exact .withJournal (.withDepot (.withScanner (.withSupply (h.move (.aside s.lines _ _ _ s.duty s.draws)) _ (by rfl)) _ (by rfl)
    (by rfl)) _ (by exact id)) _ (by rfl) (by rfl) (.inl (by rfl)) (by exact id)

theorem Moves.recorderTimeAdvance (h : Moves s₀ s) : Moves s₀ (recorderTimeAdvance s) :=
  .publish (.withSupply h.passQuantum _ (by rfl)) _ _

/-! ### The lines -/

theorem Moves.lineRawChange (h : Moves s₀ s) (line : Line) (level : Bool) : Moves s₀ (lineRawChange line level s) := h.withLines _

theorem Moves.wake (h : Moves s₀ s) : Moves s₀ s.wake := by
  unfold State.wake
  split
  · exact h.enterRun
  · exact h.withSupply _ rfl
  · exact h

theorem Moves.depotIgnRise (h : Moves s₀ s) : Moves s₀ s.depotIgnRise := by
  have cleared := h.withDepot { s.depot with wrongCodes := 0, lockout := false } id
  unfold State.depotIgnRise
  dsimp only
  split
  · exact cleared.publish _ _
  · exact cleared

theorem Moves.wakeAndSensor (h : Moves s₀ s) : Moves s₀ s.wakeAndSensor := by
  unfold State.wakeAndSensor
  split
  · dsimp only
    split
    · exact h.draw.sensorIgnRise.wake
    · exact h.draw.wake.sensorIgnRise
  · exact h.wake.sensorIgnRise

theorem Moves.deliverLine (h : Moves s₀ s) (line : Line) (level : Bool) : Moves s₀ (s.deliverLine line level) := by
  unfold State.deliverLine
  split
  · split
    · exact h.monitorIgnRise.wakeAndSensor.depotIgnRise
    · exact h.monitorIgnFall
  · split
    · exact h.monitorCrankRise.wake
    · exact h.monitorCrankFall
  · split
    · exact h.presentClutch
    · exact h
  · split
    · exact h.evaluateGear
    · exact h

theorem Moves.debounceExpiry (h : Moves s₀ s) (line : Line) : Moves s₀ (debounceExpiry line s) := by
  unfold Machine.debounceExpiry
  dsimp only
  split
  · exact (h.withLines _).deliverLine _ _
  · exact h

theorem Moves.startingLevel (h : Moves s₀ s) (line : Line) : Moves s₀ (startingLevel line s) := by
  unfold Machine.startingLevel
  dsimp only
  split
  case isTrue =>
    have given := h.withLines (s.lines.set line
      { s.lines.get line with level := (s.lines.get line).raw, pendingLevel := none, starting := false })
    have armed {u : State} (hu : Moves s₀ u) :
        Moves s₀ (if u.lines.settled = true ∧ u.supply.power ≠ .hold ∧ ¬ u.supply.started = true then u.enterRun else u) := by
      split
      · exact hu.enterRun
      · exact hu
    split
    · exact armed given.monitorIgnRise.wake
    · exact armed given
  case isFalse => exact h

end

end Sys2Proof.Proofs
end

section
namespace Sys2Proof.Proofs
open Sys2Proof Sys2Proof.Machine

section
variable {s₀ s : State}

/-! ### The scanner -/

/-- A change of the scanner that holds no new slip, or one of an open port. -/
theorem Moves.setScanner (h : Moves s₀ s) (v : Scanner)
    (open_ : (s₀.quietInReset → s.resetLow = false) ∨ (s.scanner.held = none → v.held = none))
    (cursor : s₀.ringLegal → v.cursor < 64) : Moves s₀ (s.setScanner v) := by
  have moved := h.move (.scanner v open_ cursor)
  unfold State.setScanner
  split
  · exact moved
  · exact moved.publish _ _

theorem Moves.cursor_lt (h : Moves s₀ s) : s₀.ringLegal → s.scanner.cursor < 64 := fun start => (h.keeps_ringLegal start).2

theorem nextCursor_lt (ringEnd : Bool) (h : s.ringLegal) : s.nextCursor ringEnd < 64 := by
  obtain ⟨⟨_, hring⟩, _⟩ := h
  unfold State.nextCursor
  split
  · decide
  case isFalse wraps => exact lt_of_lt_of_le (not_le.1 fun le => wraps (.inr le)) hring

theorem Moves.clearTail (h : Moves s₀ s) (p : Slip) (r : Result) (open_ : s₀.quietInReset → s.resetLow = false) :
    Moves s₀ (s.clearTail p r) := by
  unfold State.clearTail
  split
  · exact h.move (.port _ open_ (memZero_wf _ _ _) id)
  · exact h

theorem Moves.writeReturn (h : Moves s₀ s) (r : Result) (open_ : s₀.quietInReset → s.resetLow = false) :
    Moves s₀ (s.writeReturn r) :=
  (((h.store _ _ open_).store _ _ open_).store _ _ open_).store _ _ open_

theorem Moves.giveBack (h : Moves s₀ s) (p : Slip) (r : Result) (open_ : s₀.quietInReset → s.resetLow = false) :
    Moves s₀ (s.giveBack p r) := by
  have cleared := h.clearTail p r open_
  have written := cleared.writeReturn r (h.open_later open_ cleared)
  unfold State.giveBack
  dsimp only
  split
  · exact (written.setNotice _).setScanner _ (.inr fun _ => rfl) fun start => nextCursor_lt _ (h.keeps_ringLegal start)
  · exact written.setScanner _ (.inr fun _ => rfl) fun start => nextCursor_lt _ (h.keeps_ringLegal start)

theorem ownerDevice_ne_zero : BitVec.ofNat 8 Config.ownerDevice ≠ 0 := by decide

theorem Moves.readSlips (n : Nat) : ∀ {s : State}, Moves s₀ s → Moves s₀ (readSlips n s) := by
  induction n with
  | zero => exact fun h => h.setScanner _ (.inr id) h.cursor_lt
  | succ n ih =>
    intro s h
    unfold Machine.readSlips
    dsimp only
    split
    case isTrue device =>
      have open_ := h.open_of_byte (device ▸ ownerDevice_ne_zero)
      split
      · exact h.move (.scanner _ (.inl open_) h.cursor_lt)
      · exact ih (h.giveBack _ _ open_)
    case isFalse =>
      split
      · exact ih (h.withScanner _ rfl rfl)
      · exact h.setScanner _ (.inr id) h.cursor_lt

theorem Moves.returnSlip (h : Moves s₀ s) (p : Slip) (r : Result) (open_ : s₀.quietInReset → s.resetLow = false) :
    Moves s₀ (s.returnSlip p r) :=
  Moves.readSlips _ (h.giveBack p r open_)

theorem Moves.takeNudge (h : Moves s₀ s) : Moves s₀ s.takeNudge := by
  unfold State.takeNudge
  split
  · exact Moves.readSlips _ (h.setScanner _ (.inr id) h.cursor_lt)
  · exact h.withScanner _ rfl rfl

theorem Moves.waitSave (h : Moves s₀ s) (held : Held) (open_ : s₀.quietInReset → s.resetLow = false) :
    Moves s₀ (s.waitSave held) := by
  have waiting := h.setScanner { s.scanner with state := .waitSave, held := some held } (.inl open_) h.cursor_lt
  exact (waiting.move (.journal { (s.setScanner _).journal with waiting := some false } rfl rfl (.inl rfl)
    (.inl (h.open_later open_ waiting)))).trigger

theorem Moves.conclude (h : Moves s₀ s) (p : Slip) (v : Verdict) (open_ : s₀.quietInReset → s.resetLow = false) :
    Moves s₀ (s.conclude p v) := by
  unfold State.conclude
  split
  · exact h.returnSlip p _ open_
  · exact h.waitSave _ open_
  · exact h

/-- The command of a kind is a chain of moves where its block's work is one. -/
theorem Moves.carryOut (h : Moves s₀ s) (kind : SlipKind) (work : Slip → State → Verdict × State)
    (worked : ∀ p, (s₀.quietInReset → s.resetLow = false) → Moves s₀ (work p s).2) : Moves s₀ (s.carryOut kind work) := by
  unfold State.carryOut
  split
  case h_1 p held =>
    have open_ := h.open_of_dispatched held
    split
    · exact (worked p open_).conclude p _ (h.open_later open_ (worked p open_))
    · exact h.returnSlip p _ open_
  case h_2 => exact h

theorem Moves.releaseSlip (h : Moves s₀ s) (sequence : Nat) : Moves s₀ (s.releaseSlip sequence) := by
  have freed := h.withJournal { s.journal with waiting := none } rfl rfl (.inl rfl) (fun _ => rfl)
  unfold State.releaseSlip
  dsimp only
  split
  case h_1 held hheld =>
    have returned := freed.giveBack held.slip
      ⟨.done, if held.slip.kind = .save then sequence % 65536 else held.detail, held.used⟩ (freed.open_of_held hheld)
    exact Moves.readSlips _ (returned.setScanner _ (.inr id) returned.cursor_lt)
  case h_2 => exact freed

/-! ### Frame intake -/

/-- Entries among which no later one clashes with an earlier one carry distinct pairs (R56, R58 check 5). -/
theorem routesDistinct_of_firstClash (entries : List RouteEntry) : ∀ (earlier : List RouteEntry) (i : Nat),
    routesDistinct earlier → firstClash earlier entries i = none → routesDistinct (earlier ++ entries) := by
  induction entries with
  | nil => exact fun earlier _ h _ => by simpa using h
  | cons e rest ih =>
    intro earlier i h none_
    unfold firstClash at none_
    split at none_
    case isTrue => cases none_
    case isFalse clear =>
      have step : routesDistinct (earlier ++ [e]) := by
        refine List.pairwise_append.2 ⟨h, List.pairwise_singleton _ _, fun f hf g hg => ?_⟩
        obtain rfl := List.mem_singleton.1 hg
        rintro ⟨tag, target⟩
        exact clear (List.any_eq_true.2 ⟨f, hf, by simp [RouteEntry.clash, tag, target]⟩)
      simpa using ih (earlier ++ [e]) (i + 1) step none_

theorem routesDistinct_of_checkRoute {m : Memory} {p : Slip} {entries : List RouteEntry} (h : checkRoute m p = .ok entries) :
    routesDistinct entries := by
  unfold checkRoute at h
  dsimp only at h
  split at h
  · cases h
  · split at h
    · cases h
    · split at h
      · cases h
      · split at h
        · cases h
        · split at h
          · cases h
          case h_2 clear =>
            cases h
            exact routesDistinct_of_firstClash _ [] 0 .nil clear

theorem Moves.routeWork (h : Moves s₀ s) (p : Slip) : Moves s₀ (routeWork p s).2 := by
  unfold Machine.routeWork
  split
  · exact h
  case h_2 entries checked =>
    exact (h.move (.intake { s.intake with routes := entries.map (fun e => ⟨e, none⟩) } (.inr id)
      (fun _ => by simpa [Function.comp_def] using routesDistinct_of_checkRoute checked) id)).setNotice _

theorem Moves.feedWork (h : Moves s₀ s) (p : Slip) (open_ : s₀.quietInReset → s.resetLow = false) :
    Moves s₀ (feedWork p s).2 := by
  unfold Machine.feedWork
  split
  · exact h
  · split
    · exact h
    · split
      · exact h
      · exact h.move (.intake _ (.inl open_) id id)

theorem Moves.deliverValue (h : Moves s₀ s) (target : RouteTarget) (v : Int) : Moves s₀ (s.deliverValue target v).2 := by
  have clamped : Moves s₀ (if clampTarget target v = v then s else s.bumpTally .clamped) := by
    split
    · exact h
    · exact h.bumpTally _
  unfold State.deliverValue
  dsimp only
  generalize (if clampTarget target v = v then s else s.bumpTally .clamped) = t at clamped ⊢
  split
  · exact clamped.deliverFrame _ _
  · exact (clamped.deliverFrame _ _).bumpTally _

theorem Moves.handleCandidate (h : Moves s₀ s) (f : Frame) (i : Nat) : Moves s₀ (s.handleCandidate f i).2 := by
  unfold State.handleCandidate
  split
  · exact h
  case h_2 r hr =>
    split
    · exact h.bumpTally _
    · split
      · exact h.bumpTally _
      · split
        · exact h.bumpTally _
        · refine (h.move (.intake { s.intake with routes := s.intake.routes.set i ⟨r.entry, some f.time⟩ } (.inr id)
            (fun law => ?_) id)).deliverValue _ _
          have same : (s.intake.routes.set i ⟨r.entry, some f.time⟩).map (·.entry) = s.intake.routes.map (·.entry) := by
            refine List.ext_getElem? fun j => ?_
            rw [List.getElem?_map, List.getElem?_map, List.getElem?_set]
            split
            · subst j
              rw [hr, if_pos (List.getElem?_eq_some_iff.1 hr).1]
              rfl
            · rfl
          simpa only [same] using law

theorem Moves.setFeed (h : Moves s₀ s) (w : Option FeedWork) (open_ : (s₀.quietInReset → s.resetLow = false) ∨ w = none) :
    Moves s₀ (s.setFeed w) :=
  h.move (.intake _ (open_.imp_right fun e _ => e) id id)

theorem Moves.completeFeed (h : Moves s₀ s) (applied : Nat) : Moves s₀ (s.completeFeed applied) := by
  have ended := h.setFeed none (.inr rfl)
  unfold State.completeFeed
  split
  case h_1 p held => exact ended.returnSlip p _ (h.open_later (h.open_of_dispatched held) ended)
  case h_2 => exact ended

theorem Moves.feedOn (h : Moves s₀ s) (w : FeedWork) (open_ : s₀.quietInReset → s.resetLow = false) : Moves s₀ (s.feedOn w) := by
  unfold State.feedOn
  split
  · exact h.completeFeed _
  · exact h.setFeed _ (.inl open_)

theorem Moves.feedNext (h : Moves s₀ s) (w : FeedWork) (f : Frame) (left : List Nat)
    (open_ : s₀.quietInReset → s.resetLow = false) : Moves s₀ (s.feedNext w f left) := by
  unfold State.feedNext
  split
  · exact h.feedOn _ open_
  · exact (h.handleCandidate f _).feedOn _ (h.open_later open_ (h.handleCandidate f _))

theorem Moves.feedRecord (h : Moves s₀ s) (w : FeedWork) (open_ : s₀.quietInReset → s.resetLow = false) :
    Moves s₀ (s.feedRecord w) := by
  have taken := h.bumpTally .taken
  unfold State.feedRecord
  dsimp only
  split
  · exact (taken.bumpTally .unrouted).feedOn _ (h.open_later open_ (taken.bumpTally .unrouted))
  · exact taken.feedNext _ _ _ (h.open_later open_ taken)

theorem Moves.feedCandidate (h : Moves s₀ s) : Moves s₀ (feedCandidate s) := by
  unfold Machine.feedCandidate
  split
  · exact h
  case h_2 w hw =>
    have open_ : s₀.quietInReset → s.resetLow = false := h.open_of_not_quiet fun q => Bool.eq_false_iff.2 fun low => by
      have ⟨_, _, _, none_, _⟩ := q low
      simp [hw] at none_
    split
    · exact h.feedNext _ _ _ open_
    · split
      · exact h.feedRecord _ open_
      · exact h.completeFeed _

/-! ### Components and hires -/

/-- A change of the bucket's list that keeps its deltas bounded. -/
theorem hireMove_mapBucket {f : List DamageEntry → List DamageEntry}
    (hf : deltasBounded s.hires.bucket.entries → deltasBounded (f s.hires.bucket.entries)) :
    HireMove s { s.hires with bucket := { s.hires.bucket with entries := f s.hires.bucket.entries } } :=
  ⟨id, fun ⟨hhire, hcounts, hentries⟩ => ⟨hhire, hcounts, hf hentries⟩, id⟩

theorem deltasBounded_releaseEntry {entries : List DamageEntry} (slot : Nat) (h : deltasBounded entries) :
    deltasBounded (releaseEntry slot entries) := by
  intro e he
  obtain ⟨d, hd, rfl⟩ := List.mem_map.1 he
  split
  · exact h d hd
  · exact h d hd

theorem Moves.takeOut (h : Moves s₀ s) (p : Slip) (slot : Nat) (c : Component) (open_ : s₀.quietInReset → s.resetLow = false) :
    Moves s₀ (s.takeOut p slot c) := by
  have freed := (h.store p.outOffset (c.exportBytes p.retire) open_).move (.free slot)
  unfold State.takeOut State.handToBucket
  dsimp only
  split
  · exact freed.move (.hires _ (hireMove_mapBucket (deltasBounded_releaseEntry slot)))
  · exact freed

theorem Moves.settleForUnfit (h : Moves s₀ s) (p : Slip) : Moves s₀ (s.settleForUnfit p) := by
  unfold State.settleForUnfit
  split
  · exact h.takeWaiting _
  · exact h

theorem Moves.unfit (h : Moves s₀ s) (p : Slip) (slot : Nat) (c : Component) (open_ : s₀.quietInReset → s.resetLow = false) :
    Moves s₀ (s.unfit p slot c).2 := by
  have retired : Moves s₀ (if p.retire then s.retireSlot slot c else s) := by
    split
    · unfold State.retireSlot
      split
      · exact h.closeOutSlot _ _
      · exact h
    · exact h
  exact retired.takeOut _ _ _ (h.open_later open_ retired)

theorem Moves.unfitWork (h : Moves s₀ s) (p : Slip) (open_ : s₀.quietInReset → s.resetLow = false) :
    Moves s₀ (unfitWork p s).2 := by
  unfold Machine.unfitWork
  split
  · exact h
  · exact (h.settleForUnfit p).unfit p _ _ (h.open_later open_ (h.settleForUnfit p))

theorem Moves.peekWork (h : Moves s₀ s) (p : Slip) (open_ : s₀.quietInReset → s.resetLow = false) :
    Moves s₀ (peekWork p s).2 := by
  unfold Machine.peekWork
  split
  · exact h
  · split
    · exact h
    · split
      · exact h
      · split
        · exact h
        · exact h.store _ _ open_

theorem counts_zero_bounded : Counts.zero.bounded := by
  simp [Counts.bounded, Counts.zero, StartCounts.bounded, StartCounts.zero]

theorem delta_of_mem_liveEntries {e : DamageEntry} (h : e ∈ s.liveEntries) : e.delta = 0 := by
  obtain ⟨d, _, rfl⟩ := List.mem_map.1 h
  rfl

theorem HireMove.congr {t : State} {v : HireRegister} (m : HireMove s v) (slots : t.slots = s.slots) (hires : t.hires = s.hires)
    (depot : t.depot = s.depot) : HireMove t v := by
  refine ⟨?_, ?_, ?_⟩
  · rw [State.depotOrHire, depot, hires]; exact m.apart
  · rw [hires]; exact m.bounded
  · rw [slots, hires]; exact m.within

theorem hireMove_opened (number : Nat) (normal : s.depot.state ≠ .depot) : HireMove s (s.openedRegister number) := by
  have live : deltasBounded s.liveEntries := fun e he => by simp [delta_of_mem_liveEntries he]
  refine ⟨fun _ d => absurd d normal, fun _ => ⟨fun h e => ?_, counts_zero_bounded, live⟩, fun _ h e d hd => ?_⟩
  · cases e
    exact ⟨counts_zero_bounded, live⟩
  · cases e
    simp [delta_of_mem_liveEntries hd]

theorem normal_of_checkHireOpen {p : Slip} (h : checkHireOpen s p = none) : s.depot.state ≠ .depot := by
  unfold checkHireOpen at h
  split at h
  · cases h
  · split at h
    · cases h
    · assumption

theorem Moves.hireOpenWork (h : Moves s₀ s) (p : Slip) (open_ : s₀.quietInReset → s.resetLow = false) :
    Moves s₀ (hireOpenWork p s).2 := by
  unfold Machine.hireOpenWork
  split
  · exact h
  case h_2 checked =>
    have stored := h.store p.outOffset (s.hires.bucket.bytes s.now) open_
    have opens := hireMove_opened (memLe s.port.mem 4 p.inOffset) (normal_of_checkHireOpen checked)
    have opened := stored.move (.hires _ (opens.congr (store_slots _ _ _) (store_hires _ _ _) (store_depot _ _ _)))
    exact opened.publishHire

theorem Moves.hireCloseWork (h : Moves s₀ s) (p : Slip) (open_ : s₀.quietInReset → s.resetLow = false) :
    Moves s₀ (hireCloseWork p s).2 := by
  unfold Machine.hireCloseWork
  split
  · exact h
  case h_2 hire _ =>
    have stored := h.store p.outOffset (hire.bytes s.now) open_
    have closes : HireMove s { s.hires with hire := none, lastClosed := hire.number } :=
      ⟨fun _ _ => rfl, fun ⟨_, bucket⟩ => ⟨nofun, bucket⟩, fun _ => nofun⟩
    have closed := stored.move (.hires _ (closes.congr (store_slots _ _ _) (store_hires _ _ _) (store_depot _ _ _)))
    exact closed.publishHire

end

end Sys2Proof.Proofs
end

section
/-! Tune sections as they are read (R160): each comes out legal, and changes no other section. -/
namespace Sys2Proof.Proofs
open Sys2Proof Sys2Proof.Machine

/-! ### Numbers of so many bytes -/

theorem memLe_lt (m : Memory) (k a : Nat) : memLe m k a < 256 ^ k := by
  induction k generalizing a with
  | zero => simp [memLe]
  | succ k ih =>
    have := (memGet m a).isLt
    have := ih (a + 1)
    simp only [memLe, Nat.pow_succ]
    omega

theorem weightsLegal_readWords (m : Memory) (a : Nat) : weightsLegal (readWords m 16 a) := by
  refine ⟨by simp [readWords], fun w hw => ?_⟩
  obtain ⟨i, _, rfl⟩ := List.mem_map.1 hw
  have := memLe_lt m 2 (a + 2 * i)
  omega

/-! ### The sections -/

theorem clampNat_bounds {lo hi : Nat} (h : lo ≤ hi) (v : Nat) : lo ≤ clampNat lo hi v ∧ clampNat lo hi v ≤ hi := by
  unfold clampNat
  omega

theorem clampInt_bounds {lo hi : Int} (h : lo ≤ hi) (v : Int) : lo ≤ clampInt lo hi v ∧ clampInt lo hi v ≤ hi := by
  unfold clampInt
  omega

theorem clampRatios_length (count : Nat) (ratios : List Nat) : (clampRatios count ratios).length = ratios.length := by
  simp [clampRatios]

theorem clampRatios_bounds {count : Nat} {ratios : List Nat} {q : Nat} (h : q ∈ (clampRatios count ratios).take count) :
    64 ≤ q ∧ q ≤ 2047 := by
  obtain ⟨i, hi, rfl⟩ := List.mem_iff_getElem.1 h
  simp only [List.length_take] at hi
  simp only [clampRatios, List.getElem_take, List.getElem_mapIdx, if_pos (lt_of_lt_of_le hi (Nat.min_le_left _ _))]
  exact clampNat_bounds (by decide) _

/-- The ranges of START, with its structural rule (R72). -/
theorem startClamp_legal (t : StartTune) (sound : t.clamp.sound = true) :
    300 ≤ t.clamp.run ∧ t.clamp.run ≤ 1200 ∧ 100 ≤ t.clamp.stop ∧ t.clamp.stop ≤ 600 ∧ t.clamp.stop < t.clamp.run
      ∧ 3 ≤ t.clamp.longCrank ∧ t.clamp.longCrank ≤ 30 ∧ 500 ≤ t.clamp.catchTime ∧ t.clamp.catchTime ≤ 5000
      ∧ 10 ≤ t.clamp.hotWindow ∧ t.clamp.hotWindow ≤ 600 ∧ -40 ≤ t.clamp.coldLimit ∧ t.clamp.coldLimit ≤ 60 := by
  have rule : t.clamp.stop < t.clamp.run := of_decide_eq_true sound
  have hrun := clampNat_bounds (lo := 300) (hi := 1200) (by decide) t.run
  have hstop := clampNat_bounds (lo := 100) (hi := 600) (by decide) t.stop
  have hlong := clampNat_bounds (lo := 3) (hi := 30) (by decide) t.longCrank
  have hcatch := clampNat_bounds (lo := 500) (hi := 5000) (by decide) t.catchTime
  have hhot := clampNat_bounds (lo := 10) (hi := 600) (by decide) t.hotWindow
  have hcold := clampInt_bounds (lo := -40) (hi := 60) (by decide) t.coldLimit
  exact ⟨hrun.1, hrun.2, hstop.1, hstop.2, rule, hlong.1, hlong.2, hcatch.1, hcatch.2, hhot.1, hhot.2, hcold.1, hcold.2⟩

/-- The ranges of ENGINE, with its structural rule (R92). -/
theorem engineClamp_legal (t : EngineTune) (sound : t.clamp.sound = true) :
    t.clamp.s1 < t.clamp.s2 ∧ t.clamp.s2 < t.clamp.s3 ∧ t.clamp.s3 ≤ 8000 ∧ -250 ≤ t.clamp.t1 ∧ t.clamp.t1 < t.clamp.t2
      ∧ t.clamp.t2 < t.clamp.t3 ∧ t.clamp.t3 ≤ 250 ∧ 300 ≤ t.clamp.idle ∧ t.clamp.idle ≤ 1500 ∧ 1000 ≤ t.clamp.overspeed
      ∧ t.clamp.overspeed ≤ 8000 ∧ 100 ≤ t.clamp.reference ∧ t.clamp.reference ≤ 5000 := by
  obtain ⟨h1, h2, h3, h4⟩ : t.clamp.s1 < t.clamp.s2 ∧ t.clamp.s2 < t.clamp.s3 ∧ t.clamp.t1 < t.clamp.t2 ∧ t.clamp.t2 < t.clamp.t3 :=
    of_decide_eq_true sound
  have hs := clampNat_bounds (lo := 0) (hi := 8000) (by decide) t.s3
  have ht1 := clampInt_bounds (lo := -250) (hi := 250) (by decide) t.t1
  have ht3 := clampInt_bounds (lo := -250) (hi := 250) (by decide) t.t3
  have hidle := clampNat_bounds (lo := 300) (hi := 1500) (by decide) t.idle
  have hover := clampNat_bounds (lo := 1000) (hi := 8000) (by decide) t.overspeed
  have href := clampNat_bounds (lo := 100) (hi := 5000) (by decide) t.reference
  exact ⟨h1, h2, hs.2, ht1.1, h3, h4, ht3.2, hidle.1, hidle.2, hover.1, hover.2, href.1, href.2⟩

/-- The gate and the bin width of a class, in their ranges (R109). -/
theorem cycleClamp_legal (t : CycleTune) : 1 ≤ t.clamp.gate ∧ t.clamp.gate ≤ 64 ∧ 1 ≤ t.clamp.width ∧ t.clamp.width ≤ 256 :=
  have hgate := clampNat_bounds (lo := 1) (hi := 64) (by decide) t.gate
  have hwidth := clampNat_bounds (lo := 1) (hi := 256) (by decide) t.width
  ⟨hgate.1, hgate.2, hwidth.1, hwidth.2⟩

/-- The ranges of GEARBOX, with its structural rule (R33). -/
theorem gearClamp_legal (m : Memory) (a : Nat) (sound : (readGearTune m a).clamp.sound = true) :
    let t := (readGearTune m a).clamp
    1 ≤ t.forward ∧ t.forward ≤ 12 ∧ t.reverse ≤ 2 ∧ 1 ≤ t.tolerance ∧ t.tolerance ≤ 10
      ∧ strictlyDecreasing (t.forwardRatios.take t.forward) = true
      ∧ (∀ q ∈ t.forwardRatios.take t.forward, 64 ≤ q ∧ q ≤ 2047) ∧ (∀ q ∈ t.reverseRatios.take t.reverse, 64 ≤ q ∧ q ≤ 2047)
      ∧ t.forwardRatios.length = 12 ∧ t.reverseRatios.length = 2 := by
  have rule := (Bool.and_eq_true_iff.1 sound).2
  have hforward := clampNat_bounds (lo := 1) (hi := 12) (by decide) (readGearTune m a).forward
  have hreverse := clampNat_bounds (lo := 0) (hi := 2) (by decide) (readGearTune m a).reverse
  have htolerance := clampNat_bounds (lo := 1) (hi := 10) (by decide) (readGearTune m a).tolerance
  exact ⟨hforward.1, hforward.2, hreverse.2, htolerance.1, htolerance.2, rule, fun _ => clampRatios_bounds,
    fun _ => clampRatios_bounds, by simp [GearTune.clamp, clampRatios_length, readGearTune, readWords],
    by simp [GearTune.clamp, clampRatios_length, readGearTune, readWords]⟩

theorem pulseClamp_legal (t : PulseTune) : t.clamp.teeth0 ≤ 240 ∧ t.clamp.teeth1 ≤ 240 ∧ t.clamp.teeth2 ≤ 240
    ∧ t.clamp.teeth3 ≤ 240 ∧ 1 ≤ t.clamp.limit ∧ t.clamp.limit ≤ 15 :=
  have teeth (v : Nat) : clampNat 0 240 v ≤ 240 := (clampNat_bounds (by decide) v).2
  have hlimit := clampNat_bounds (lo := 1) (hi := 15) (by decide) t.limit
  ⟨teeth _, teeth _, teeth _, teeth _, hlimit.1, hlimit.2⟩

/-- A section that is read makes a legal tune set of a legal one (R159 check 5, R160). -/
theorem readSection_legal {old new : TuneSet} {m : Memory} {a changed : Nat} {sec : TuneSection} (h : old.legal)
    (read : readSection old m a sec = some (new, changed)) : new.legal := by
  obtain ⟨hstart, hengine, hclutch, hgear, hcycle, hpulse, hperiod, hcode⟩ := h
  have ⟨hg1, hg2, hw1, hw2, ha1, ha2, hb1, hb2, hgw, haw⟩ := hcycle
  cases sec <;> simp only [readSection, Option.map_eq_some_iff] at read
  case supply =>
    obtain ⟨_, _, e⟩ := read
    cases e
    exact ⟨hstart, hengine, hclutch, hgear, hcycle, hpulse, hperiod, hcode⟩
  case start =>
    split at read
    case isTrue sound =>
      cases read
      exact ⟨startClamp_legal _ (Bool.and_eq_true_iff.1 sound).2, hengine, hclutch, hgear, hcycle, hpulse, hperiod, hcode⟩
    case isFalse => cases read
  case engine =>
    split at read
    case isTrue sound =>
      cases read
      exact ⟨hstart, engineClamp_legal _ (Bool.and_eq_true_iff.1 sound).2, hclutch, hgear, hcycle, hpulse, hperiod, hcode⟩
    case isFalse => cases read
  case clutch =>
    cases read
    have hfloor := clampNat_bounds (lo := 10) (hi := 200) (by decide) (readClutchTune m a).floor
    have hhot := clampNat_bounds (lo := 1) (hi := 2000) (by decide) (readClutchTune m a).hotSlip
    exact ⟨hstart, hengine, ⟨hfloor.1, hfloor.2, hhot.1, hhot.2⟩, hgear, hcycle, hpulse, hperiod, hcode⟩
  case gearbox =>
    split at read
    case isTrue sound =>
      cases read
      obtain ⟨c1, c2, c3, c4⟩ := cycleClamp_legal (readGearTune m a).cycle
      exact ⟨hstart, hengine, hclutch, gearClamp_legal m a (Bool.and_eq_true_iff.1 sound).2,
        ⟨c1, c2, c3, c4, ha1, ha2, hb1, hb2, weightsLegal_readWords m _, haw⟩, hpulse, hperiod, hcode⟩
    case isFalse => cases read
  case axle =>
    cases read
    obtain ⟨c1, c2, c3, c4⟩ := cycleClamp_legal (readAxleTune m a)
    exact ⟨hstart, hengine, hclutch, hgear, ⟨hg1, hg2, hw1, hw2, c1, c2, c3, c4, hgw, weightsLegal_readWords m _⟩, hpulse,
      hperiod, hcode⟩
  case pulse =>
    cases read
    exact ⟨hstart, hengine, hclutch, hgear, hcycle, pulseClamp_legal _, hperiod, hcode⟩
  case journal =>
    cases read
    exact ⟨hstart, hengine, hclutch, hgear, hcycle, hpulse, clampNat_bounds (by decide) _, hcode⟩
  case code =>
    cases read
    exact ⟨hstart, hengine, hclutch, hgear, hcycle, hpulse, hperiod, by simpa using memLe_lt m 4 (a + 4)⟩

/-- The PULSE section changes PULSE alone, to a fault limit of at least 1; no other section changes PULSE. -/
theorem readSection_pulse {old new : TuneSet} {m : Memory} {a changed : Nat} {sec : TuneSection}
    (read : readSection old m a sec = some (new, changed)) : if sec = .pulse then limitLegal new else new.pulse = old.pulse := by
  cases sec <;> simp only [readSection, Option.map_eq_some_iff] at read
  case supply => obtain ⟨_, _, e⟩ := read; cases e; rfl
  case pulse => cases read; exact (pulseClamp_legal _).2.2.2.2.1
  case start | engine | gearbox => split at read <;> cases read; rfl
  case clutch | axle | journal | code => cases read; rfl

theorem readSection_gates {old new : TuneSet} {m : Memory} {a changed : Nat} {sec : TuneSection} (h : gatesLegal old)
    (read : readSection old m a sec = some (new, changed)) : gatesLegal new := by
  cases sec <;> simp only [readSection, Option.map_eq_some_iff] at read
  case supply => obtain ⟨_, _, e⟩ := read; cases e; exact h
  case gearbox =>
    split at read <;> cases read
    exact ⟨(cycleClamp_legal _).1, h.2⟩
  case axle => cases read; exact ⟨h.1, (cycleClamp_legal _).1⟩
  case start | engine => split at read <;> cases read; exact h
  case clutch | pulse | journal | code => cases read; exact h

end Sys2Proof.Proofs
end

section
/-! The rest of the operations, and the inversion of `exec`: what a command can do. -/
namespace Sys2Proof.Proofs
open Sys2Proof Sys2Proof.Machine

/-! ### Close-out moves the slots, the register and NOTICE alone -/

theorem closeOutSlot_frame (s : State) (slot : Nat) (p : CycleTune) :
    s.closeOutSlot slot p = { s with
      slots := (s.closeOutSlot slot p).slots, hires := (s.closeOutSlot slot p).hires
      port := { s.port with notice := (s.closeOutSlot slot p).port.notice } } := by
  unfold State.closeOutSlot
  split
  · exact State.settle_frame s slot _
  · rfl

theorem closeOutSlots_frame (p : CycleTune) (l : List (Nat × Component)) : ∀ s : State,
    l.foldl (fun t e => t.closeOutSlot e.1 p) s = { s with
      slots := (l.foldl (fun t e => t.closeOutSlot e.1 p) s).slots, hires := (l.foldl (fun t e => t.closeOutSlot e.1 p) s).hires
      port := { s.port with notice := (l.foldl (fun t e => t.closeOutSlot e.1 p) s).port.notice } } := by
  induction l with
  | nil => intro s; rfl
  | cons e rest ih => intro s; rw [List.foldl_cons, ih, closeOutSlot_frame]

theorem tuneCloseOut_frame (s : State) (sec : TuneSection) (new : TuneSet) :
    s.tuneCloseOut sec new = { s with
      slots := (s.tuneCloseOut sec new).slots, hires := (s.tuneCloseOut sec new).hires
      port := { s.port with notice := (s.tuneCloseOut sec new).port.notice } } := by
  unfold State.tuneCloseOut
  split
  · split
    · exact closeOutSlots_frame _ _ s
    · rfl
  · split
    · exact closeOutSlots_frame _ _ s
    · rfl
  · rfl

section
variable {s₀ s : State}

/-! ### Depot control -/

theorem hire_none_of_checkDepotIn {p : Slip} (h : checkDepotIn s p = none) : s.hires.hire = none := by
  unfold checkDepotIn at h
  split at h
  · cases h
  · split at h
    · cases h
    · split at h
      · cases h
      · split at h
        · cases h
        · exact Option.map_eq_none_iff.1 h

theorem Moves.countWrongCode (h : Moves s₀ s) : Moves s₀ s.countWrongCode := by
  unfold State.countWrongCode
  dsimp only
  split
  · exact .publish (.setNotice (h.withDepot _ (by exact id)) _) _ _
  · exact h.withDepot _ (by exact id)

theorem Moves.depotInWork (h : Moves s₀ s) (p : Slip) : Moves s₀ (depotInWork p s).2 := by
  unfold Machine.depotInWork
  split
  · exact h
  case h_2 checked =>
    split
    · exact h.countWrongCode
    · exact (h.move (.depot _ fun _ => .inr (hire_none_of_checkDepotIn checked))).publish _ _

theorem Moves.depotOutWork (h : Moves s₀ s) (p : Slip) : Moves s₀ (depotOutWork p s).2 := by
  unfold Machine.depotOutWork
  split
  · exact h
  · split
    · exact h
    · exact (h.withDepot { s.depot with state := .normal, timer := .stopped } nofun).publish _ _

theorem Moves.settleForTune (h : Moves s₀ s) (sec : TuneSection) : Moves s₀ (s.settleForTune sec) := by
  unfold State.settleForTune
  split
  · exact h.takeWaiting _
  · exact h.takeWaiting _
  · exact h

theorem Moves.tuneCloseOut (h : Moves s₀ s) (sec : TuneSection) (new : TuneSet) : Moves s₀ (s.tuneCloseOut sec new) := by
  unfold State.tuneCloseOut
  split
  · split
    · exact h.closeOutClass _ _
    · exact h
  · split
    · exact h.closeOutClass _ _
    · exact h
  · exact h

/-- A section tuned with its effect on the channels: a lower fault limit brings the counters down with it (R49), so the two are one
move. -/
theorem Moves.retune (h : Moves s₀ s) {sec : TuneSection} {new : TuneSet} {m : Memory} {a changed : Nat}
    (read : readSection s.tune m a sec = some (new, changed)) (d : Depot) (state : d.state = .depot → s.depot.state = .depot) :
    Moves s₀ (((s.withTune new).withDepot d).tuneEffects sec s.tune) := by
  have tuned (v : Pulse) (sound : limitLegal s.tune → ∀ ch, (s.pulse.get ch).sound s.tune.pulse.limit →
      (v.get ch).sound new.pulse.limit) : Moves s₀ (((s.withTune new).withPulse v).withDepot d) := by
    have pulse := readSection_pulse read
    refine (h.move (.tune new v (fun law => readSection_legal law read) (fun legal => ?_)
      (fun gates => readSection_gates gates read) sound)).withDepot d state
    split at pulse
    · exact pulse
    · rw [limitLegal, pulse]; exact legal
  have pulse := readSection_pulse read
  by_cases sec_ : sec = .pulse
  · rw [if_pos sec_] at pulse
    subst sec_
    simp only [State.tuneEffects]
    split
    case isTrue =>
      have lowered := tuned (s.pulse.each fun c =>
        { c with counter := min new.pulse.limit c.counter
                 health := if min new.pulse.limit c.counter = new.pulse.limit then .faulted else c.health })
        (fun _ ch law => by rw [pulse_get_each]; exact lowered_sound pulse law)
      unfold State.lowerLimit
      dsimp only
      split
      · exact lowered.setNotice _
      · exact lowered
    case isFalse above => exact tuned s.pulse fun _ _ law => sound_mono (not_lt.1 above) law
  · rw [if_neg sec_] at pulse
    have kept := tuned s.pulse fun _ ch law => by rw [pulse]; exact law
    unfold State.tuneEffects
    split
    · exact Moves.substituteSlipping kept
    · exact absurd rfl sec_
    · exact kept

theorem Moves.applyTune (h : Moves s₀ s) {sec : TuneSection} {new : TuneSet} {m : Memory} {a changed : Nat}
    (read : readSection s.tune m a sec = some (new, changed)) : Moves s₀ (s.applyTune sec new) := by
  have closed := (h.settleForTune sec).tuneCloseOut sec new
  have tune : ((s.settleForTune sec).tuneCloseOut sec new).tune = s.tune := by
    rw [tuneCloseOut_frame, State.settleForTune_frame]
  have := closed.retune (tune ▸ read) { ((s.settleForTune sec).tuneCloseOut sec new).depot with
    tuned := sec :: ((s.settleForTune sec).tuneCloseOut sec new).depot.tuned } id
  rwa [tune] at this

theorem readSection_of_checkTune {p : Slip} {sec : TuneSection} {new : TuneSet} {changed : Nat}
    (h : checkTune s p = .ok (sec, new, changed)) : readSection s.tune s.port.mem p.inOffset sec = some (new, changed) := by
  unfold checkTune at h
  split at h
  · cases h
  · split at h
    · cases h
    · split at h
      · cases h
      · split at h
        · cases h
        · split at h
          · cases h
          · split at h
            · cases h
            case h_2 read => cases h; exact read

theorem Moves.tuneWork (h : Moves s₀ s) (p : Slip) : Moves s₀ (tuneWork p s).2 := by
  unfold Machine.tuneWork
  split
  · exact h
  case h_2 checked => exact h.applyTune (readSection_of_checkTune checked)

/-! ### The end of a page write -/

theorem Moves.completeCheckpoint (h : Moves s₀ s) {w : Writing} (writing : s.journal.writing = some w) (on : s.powered = true) :
    Moves s₀ (s.completeCheckpoint w) := by
  have noticed := (h.move (.endPage w writing on w.staging.recorderTime)).publishJournal.setNotice .checkpoint
  have again {u : State} (hu : Moves s₀ u) : Moves s₀ (if u.journal.another = true ∧ u.journal.writing.isNone = true
      ∧ u.supply.power ≠ .hold then u.startCheckpoint else u) := by
    split
    · exact hu.startCheckpoint
    · exact hu
  unfold State.completeCheckpoint
  dsimp only
  split
  · exact again (noticed.releaseSlip w.sequence)
  · exact again noticed

theorem Moves.failPage (h : Moves s₀ s) {w : Writing} (writing : s.journal.writing = some w) : Moves s₀ (s.failPage w) := by
  unfold State.failPage
  split
  · exact h.abandonWithRetry
  · exact (h.move (.beginPage ⟨nextPage w.page, w.sequence + 1, true, w.staging⟩ ⟨.inr ⟨w, writing, rfl⟩, nextPage_lt _,
      fun ⟨_, _, _, above⟩ on => (above on w writing).1.trans (Nat.lt_succ_self _)⟩)).setNotice _

end

/-! ### What a command can do -/

theorem begins_same {s t : State} (h : Moves s t) : ∃ u, Begins s u ∧ Moves u t := ⟨s, .same, h⟩

/-- A command of a part without supply does nothing; with supply it does what its meaning does. -/
theorem act_begins {s t : State} {f : State → State} (h : s.act f = .next t)
    (acts : s.powered = true → ∃ u, Begins s u ∧ Moves u (f s)) : ∃ u, Begins s u ∧ Moves u t := by
  unfold State.act at h
  split at h <;> cases h
  case isTrue on => exact acts on
  case isFalse => exact begins_same (.refl s)

theorem act_moves {s t : State} {f : State → State} (h : s.act f = .next t) (acts : Moves s s → Moves s (f s)) :
    ∃ u, Begins s u ∧ Moves u t :=
  act_begins h fun _ => begins_same (acts (.refl s))

/-- A write at the port acts with RESETn high alone. -/
theorem transact_moves {s t : State} {f : State → State} (h : s.transact f = .next t)
    (acts : s.resetLow = false → Moves s (f s)) : ∃ u, Begins s u ∧ Moves u t := by
  refine act_moves h fun same => ?_
  split
  · exact same
  case isFalse high => exact acts (by simpa using high)

theorem place_dispatched (s : State) (slot : Nat) (c : Component) (kind : SlipKind) :
    (s.place slot c).dispatched kind = s.dispatched kind := by
  unfold State.place State.handToBucket
  split <;> rfl

/-- An accepted FIT begins with the placing of its record; a refused one returns its slip. -/
theorem fit_begins (s : State) : ∃ u, Begins s u ∧ Moves u (s.carryOut .fit fitWork) := by
  unfold State.carryOut
  split
  case h_2 => exact begins_same (.refl s)
  case h_1 p held =>
    have returned (r : Result) : ∃ u, Begins s u ∧ Moves u (s.returnSlip p r) :=
      begins_same ((Moves.refl s).returnSlip p r ((Moves.refl s).open_of_dispatched held))
    split
    case isFalse => exact returned _
    case isTrue =>
      unfold fitWork
      split
      case h_1 => exact returned _
      case h_2 cls checked =>
        split
        case h_1 slot free =>
          have start := Moves.refl (s.place slot (s.fittedRecord p cls))
          exact ⟨_, .place p cls slot checked free,
            start.waitSave _ (start.open_of_dispatched ((place_dispatched s slot _ .fit).trans held))⟩
        case h_2 => exact returned _

theorem Moves.nudge {s₀ s : State} (h : Moves s₀ s) : Moves s₀ (if s.resetLow then s else s.takeNudge) := by
  split
  · exact h
  · exact h.takeNudge

/-- The second state differs from the first in exchange memory alone. -/
def MemoryOnly (s t : State) : Prop := t = { s with port := { s.port with mem := t.port.mem } }

theorem MemoryOnly.refl (s : State) : MemoryOnly s s := rfl

/-- Fields published one after the other move exchange memory alone, as one does. -/
theorem MemoryOnly.publish {s t : State} (h : MemoryOnly s t) (a : Nat) (bytes : List Byte) :
    MemoryOnly s (t.publish a bytes) := by
  unfold MemoryOnly at h ⊢
  rw [State.publish_frame, h]

/-- The control block rewritten whole moves exchange memory alone (R142). -/
theorem publishAll_frame (s : State) : MemoryOnly s s.publishAll := by
  have identity : MemoryOnly s s.publishIdentity := (MemoryOnly.refl s).publish _ _
  have power := identity.publish 0x04 (leBytes 1 s.publishIdentity.supply.power.code)
  unfold State.publishAll
  exact .publish (.publish (.publish (.publish (.publish (.publish (.publish (.publish (.publish (.publish (.publish
    (.publish power _ _) _ _) _ _) _ _) _ _) _ _) _ _) _ _) _ _) _ _) _ _) _ _

/-- What a power-on restores goes on to write the control block, and to enter HOLD with the battery below the stop level. -/
theorem powerUp_moves (s : State) (lines : Lines) (mv : Nat) : Moves (s.restored lines mv) (s.powerUp lines mv) := by
  unfold State.powerUp
  have empty : (s.restored lines mv).samples = [] := rfl
  generalize s.restored lines mv = r at empty ⊢
  have shown : Moves r (if r.journal.outcome = .restored then r else r.setNotice .torn).publishAll := by
    split
    · exact (Moves.refl r).publishAll
    · exact ((Moves.refl r).setNotice _).publishAll
  have none_ : (if r.journal.outcome = .restored then r else r.setNotice .torn).publishAll.samples = [] := by
    rw [publishAll_frame (if r.journal.outcome = .restored then r else r.setNotice .torn)]
    split
    · exact empty
    · exact (setNotice_samples r _).trans empty
  dsimp only
  generalize (if r.journal.outcome = .restored then r else r.setNotice .torn).publishAll = u at shown none_ ⊢
  split
  · exact shown.enterHold fun _ => none_
  · exact shown

/-- A command of a kind, whose block's work is a chain of moves. -/
theorem carryOut_begins {s t : State} {kind : SlipKind} {work : Slip → State → Verdict × State}
    (h : s.act (fun s => s.carryOut kind work) = .next t)
    (worked : ∀ p, (s.quietInReset → s.resetLow = false) → Moves s (work p s).2) : ∃ u, Begins s u ∧ Moves u t :=
  act_moves h fun same => same.carryOut kind work worked

/-- What a command can do: it begins as its row says, and goes on by moves. -/
theorem exec_moves {c : Instr} {s t : State} (h : exec c s = .next t) : ∃ u, Begins s u ∧ Moves u t := by
  cases c with
  | feed => exact carryOut_begins h fun p open_ => (Moves.refl s).feedWork p open_
  | route => exact carryOut_begins h fun p _ => (Moves.refl s).routeWork p
  | fit => exact act_begins (f := fun s => s.carryOut .fit fitWork) h fun _ => fit_begins s
  | unfit => exact carryOut_begins h fun p open_ => (Moves.refl s).unfitWork p open_
  | peek => exact carryOut_begins h fun p open_ => (Moves.refl s).peekWork p open_
  | hireOpen => exact carryOut_begins h fun p open_ => (Moves.refl s).hireOpenWork p open_
  | hireClose => exact carryOut_begins h fun p open_ => (Moves.refl s).hireCloseWork p open_
  | depotIn => exact carryOut_begins h fun p _ => (Moves.refl s).depotInWork p
  | depotOut => exact carryOut_begins h fun p _ => (Moves.refl s).depotOutWork p
  | tune => exact carryOut_begins h fun p _ => (Moves.refl s).tuneWork p
  | save => exact carryOut_begins h fun _ _ => .refl s
  | nop => exact carryOut_begins h fun _ _ => .refl s
  | nudge => exact act_moves (f := fun s => if s.resetLow then s else s.takeNudge) h fun k => k.nudge
  | selfPollExpiry =>
    refine act_moves h fun k => ?_
    split
    · exact .takeNudge (k.withScanner _ (by rfl) (by rfl))
    · exact k
  | ringWrite data =>
    unfold exec execRingWrite at h
    refine transact_moves h fun high => ?_
    cases data with
    | nil => exact .refl s
    | cons b rest => exact (Moves.refl s).move (.port _ (fun _ => high) id fun _ => clampNat_bounds (by decide) _)
  | noticeWrite data =>
    unfold exec execNoticeWrite at h
    exact transact_moves h fun high => (Moves.refl s).move (.port _ (fun _ => high) id id)
  | noticeMaskWrite data =>
    unfold exec execNoticeMaskWrite at h
    exact transact_moves h fun high => (Moves.refl s).move (.port _ (fun _ => high) id id)
  | registerWriteIgnored op addr data =>
    unfold exec execRegisterWriteIgnored at h
    exact transact_moves h fun _ => .refl s
  | exchangeMemoryWrite addr data =>
    unfold exec execExchangeMemoryWrite at h
    exact transact_moves h fun high => (Moves.refl s).store _ _ fun _ => high
  | lineRawChange line level => exact act_moves h fun k => k.lineRawChange line level
  | debounceExpiry line => exact act_moves h fun k => k.debounceExpiry line
  | startingLevel line => exact act_moves h fun k => k.startingLevel line
  | pulseEdge ch => exact act_moves h fun k => k.pulseEdge ch
  | windowEnd ch => exact act_moves h fun k => k.windowEnd ch
  | sensorSupplyShort => exact act_moves h fun k => k.sensorSupplyShort
  | offTimerExpiry => exact act_moves h fun k => k.offTimerExpiry
  | trialTimerExpiry => exact act_moves h fun k => k.trialTimerExpiry
  | freshTimerExpiry q => exact act_moves h fun k => k.freshTimerExpiry q
  | heldTimerExpiry q => exact act_moves h fun k => k.heldTimerExpiry q
  | quantumExpiry => exact act_moves h fun k => k.quantumExpiry
  | longCrank => exact act_moves h fun k => k.longCrank
  | catchTimerExpiry => exact act_moves h fun k => k.catchTimerExpiry
  | stopTimerExpiry => exact act_moves h fun k => k.stopTimerExpiry
  | batteryBelowCrankDip mv => exact act_moves h fun k => k.batteryBelowCrankDip mv
  | batteryAboveDipRecovery mv => exact act_moves h fun k => k.batteryAboveDipRecovery mv
  | batteryBelowWarning mv => exact act_moves h fun k => k.batteryBelowWarning mv
  | batteryAboveWarning mv => exact act_moves h fun k => k.batteryAboveWarning mv
  | warningFilterExpiry => exact act_moves h fun k => k.warningFilterExpiry
  | rearmTimerExpiry => exact act_moves h fun k => k.rearmTimerExpiry
  | batteryBelowStop mv => exact act_moves h fun k => k.batteryBelowStop mv
  | batteryAboveRestart mv => exact act_moves h fun k => k.batteryAboveRestart mv
  | restartDwellExpiry => exact act_moves h fun k => k.restartDwellExpiry
  | dozeTimerExpiry => exact act_moves h fun k => k.dozeTimerExpiry
  | recorderTimeAdvance => exact act_moves h fun k => k.recorderTimeAdvance
  | depotTimerExpiry =>
    refine act_moves h fun k => ?_
    split
    · exact k.depotAutoLeave
    · exact k
  | periodTimerExpiry => exact act_moves h fun k => k.periodTimerExpiry
  | retryTimerExpiry => exact act_moves h fun k => k.retryTimerExpiry
  | checkpointWriteDone verified =>
    unfold exec execCheckpointWriteDone at h
    refine act_begins h fun on => begins_same ?_
    split
    case h_1 w writing =>
      split
      · exact (Moves.refl s).completeCheckpoint writing on
      · exact (Moves.refl s).failPage writing
    case h_2 => exact .refl s
  | pinReset =>
    unfold exec execPinReset at h
    refine act_begins h fun _ => ?_
    split
    · exact begins_same (.refl s)
    · exact ⟨_, .pinReset, .refl _⟩
  | pinResetRelease =>
    unfold exec execPinResetRelease at h
    refine act_begins h fun _ => ?_
    split
    · exact ⟨_, .release, (Moves.refl _).publishAll⟩
    · exact begins_same (.refl s)
  | powerOn ign crank clutch reverse mv =>
    unfold exec execPowerOn at h
    by_cases on : s.powered = true
    · obtain rfl : s = t := Host.Outcome.next.inj (by simpa only [if_pos on] using h)
      exact begins_same (.refl s)
    · obtain rfl := Host.Outcome.next.inj (by simpa only [if_neg on] using h)
      exact ⟨_, .restore _ mv (by simpa using on), powerUp_moves s _ mv⟩
  | powerLoss => exact act_begins h fun _ => ⟨_, .powerLoss, .refl _⟩
  | feedCandidate => exact act_moves h fun k => k.feedCandidate
  | sampleAtSlot slot => exact act_moves h fun k => k.sampleAtSlot slot

end Sys2Proof.Proofs
end

section
/-! What the beginnings of a command keep: a record placed by FIT, the pins, the supply lost and restored. -/
namespace Sys2Proof.Proofs
open Sys2Proof Sys2Proof.Machine

/-! ### A record placed by FIT -/

/-- What the checks of R12 to R14 leave of an accepted FIT. -/
theorem checkFit_ok {s : State} {p : Slip} {cls : ComponentClass} (h : checkFit s p = .ok cls) :
    s.depot.state = .depot ∧ findSlot s.slots cls (memGet s.port.mem (p.inOffset + 1)).toNat = none
      ∧ (p.inLength = 20 ∨ importRefusal s.port.mem p.inOffset p.inLength cls = none) := by
  unfold checkFit at h
  dsimp only at h
  split at h
  · cases h
  · split at h
    · cases h
    · split at h
      · cases h
      · split at h
        · cases h
        · split at h
          · cases h
          · split at h
            · cases h; exact ⟨by simp_all, ‹_›, .inl ‹_›⟩
            · split at h
              · cases h
              · cases h; exact ⟨by simp_all, ‹_›, .inr ‹_›⟩

/-- An import that no check refuses has at most 16 points, a fit count below its ceiling and good content. -/
theorem importRefusal_none {m : Memory} {a length : Nat} {cls : ComponentClass} (h : importRefusal m a length cls = none) :
    (memGet m (a + 37)).toNat ≤ Config.stackLimit ∧ memLe m 4 (a + 28) ≠ Config.eventCeiling
      ∧ (readBody m a cls).importable = true := by
  simp only [importRefusal, ite_eq_iff, reduceCtorEq, and_false, false_or, and_true] at h
  obtain ⟨_, _, _, _, _, points, _, count, good⟩ := h
  exact ⟨by omega, fun e => count (.inr e), by simpa using good⟩

theorem readBody_cls (m : Memory) (a : Nat) (cls : ComponentClass) : (readBody m a cls).cls = cls := by cases cls <;> rfl

theorem freshBody_cls (cls : ComponentClass) : (freshBody cls).cls = cls := by cases cls <;> rfl

theorem fittedRecord_cls (s : State) (p : Slip) (cls : ComponentClass) : (s.fittedRecord p cls).cls = cls := by
  unfold State.fittedRecord Component.cls
  split
  · exact freshBody_cls cls
  · exact readBody_cls _ _ _

theorem readStack_length (m : Memory) (n a : Nat) : (readStack m n a).length = n := by simp [readStack]

/-- What the residue checks of R14 say. -/
theorem importable_lawful {r : Residue} {range : Int} (h : r.importable range = true) (points : r.stack.length ≤ Config.stackLimit) :
    r.lawful ∧ r.damage ≤ Config.damageCeiling := by
  simp only [Residue.importable, Bool.and_eq_true, decide_eq_true_eq] at h
  obtain ⟨⟨⟨⟨damage, _⟩, _⟩, alternating⟩, candidate⟩ := h
  exact ⟨⟨points, alternating, candidate⟩, damage⟩

theorem memLe_four_le (m : Memory) (a : Nat) : memLe m 4 a ≤ Config.eventCeiling := by
  have := memLe_lt m 4 a
  simp only [Config.eventCeiling, ceilingOf]
  omega

/-- An import of at most 16 points and good content is a lawful body (R14). -/
theorem readBody_lawful {m : Memory} {a : Nat} {cls : ComponentClass} (points : (memGet m (a + 37)).toNat ≤ Config.stackLimit)
    (h : (readBody m a cls).importable = true) : (readBody m a cls).lawful := by
  have count := memLe_four_le m
  cases cls with
  | engine =>
    simp only [readBody, Body.importable, Bool.and_eq_true, decide_eq_true_eq] at h
    exact ⟨⟨count _, count _, count _, count _⟩, by simp [readCells], h.1.2.2, h.1.2.1, h.1.1, count _⟩
  | starter => exact ⟨count _, count _, count _, by simpa [readBody, Body.importable] using h⟩
  | clutch =>
    simp only [readBody, Body.importable, decide_eq_true_eq] at h
    exact ⟨count _, count _, h⟩
  | pto => exact ⟨by simpa [readBody, Body.importable] using h, count _⟩
  | gearbox =>
    simp only [readBody, Body.importable, Bool.and_eq_true, decide_eq_true_eq] at h
    exact ⟨count _, h.1, (importable_lawful h.2 (by rw [readStack_length]; exact points)).2, count _⟩
  | axle =>
    simp only [readBody, Body.importable] at h
    exact ⟨count _, (importable_lawful h (by rw [readStack_length]; exact points)).2, count _⟩

/-- Its residue is one the gate could have left. -/
theorem readBody_residue_lawful {m : Memory} {a : Nat} {cls : ComponentClass}
    (points : (memGet m (a + 37)).toNat ≤ Config.stackLimit) (h : (readBody m a cls).importable = true) {r : Residue}
    (hr : (readBody m a cls).residue = some r) : r.lawful := by
  cases cls with
  | gearbox =>
    obtain rfl := Option.some.inj hr
    simp only [readBody, Body.importable, Bool.and_eq_true] at h
    exact (importable_lawful h.2 (by rw [readStack_length]; exact points)).1
  | axle =>
    obtain rfl := Option.some.inj hr
    exact (importable_lawful h (by rw [readStack_length]; exact points)).1
  | _ => cases hr

theorem freshBody_lawful (cls : ComponentClass) : (freshBody cls).lawful := by
  cases cls <;> simp only [freshBody, Body.lawful, StartCounts.bounded, StartCounts.zero] <;> decide

theorem freshBody_residue_lawful (cls : ComponentClass) {r : Residue} (hr : (freshBody cls).residue = some r) : r.lawful := by
  cases cls <;> cases hr <;> exact ⟨by decide, rfl, rfl⟩

/-- The record of an accepted FIT is lawful, new or imported. -/
theorem fittedRecord_lawful {s : State} {p : Slip} {cls : ComponentClass} (h : checkFit s p = .ok cls) :
    (s.fittedRecord p cls).body.lawful ∧ (s.fittedRecord p cls).fitCount ≤ Config.eventCeiling
      ∧ ∀ r, (s.fittedRecord p cls).body.residue = some r → r.lawful := by
  obtain ⟨_, _, import_⟩ := checkFit_ok h
  unfold State.fittedRecord
  dsimp only
  split
  · exact ⟨freshBody_lawful cls, by decide, fun r hr => freshBody_residue_lawful cls hr⟩
  next other =>
    obtain ⟨points, count, good⟩ := importRefusal_none (import_.resolve_left other)
    refine ⟨readBody_lawful points good, ?_, fun r hr => readBody_residue_lawful points good hr⟩
    have := memLe_four_le s.port.mem (p.inOffset + 28)
    omega

theorem place_slots (s : State) (slot : Nat) (c : Component) : (s.place slot c).slots = s.slots.set slot (some c) := by
  unfold State.place State.handToBucket
  split <;> rfl

/-- Beside the slot a placed record changes the bucket's list alone. -/
theorem place_frame (s : State) (slot : Nat) (c : Component) :
    s.place slot c = { s with slots := s.slots.set slot (some c), hires := (s.place slot c).hires } := by
  unfold State.place State.handToBucket
  split <;> rfl

theorem place_hire (s : State) (slot : Nat) (c : Component) : (s.place slot c).hires.hire = s.hires.hire := by
  unfold State.place State.handToBucket
  split <;> rfl

theorem slotAt_place (s : State) (slot : Nat) (c : Component) (i : Nat) (free : freeSlot s.slots = some slot) :
    (s.place slot c).slotAt i = if i = slot then some c else s.slotAt i := by
  have inside : slot < s.slots.length := (List.findIdx?_eq_some_iff_getElem.1 free).1
  unfold State.slotAt
  rw [place_slots, List.getElem?_set]
  split
  · subst i
    simp
  · simp [Ne.symm ‹_›]

theorem slotAt_free {s : State} {slot : Nat} (free : freeSlot s.slots = some slot) : s.slotAt slot = none := by
  obtain ⟨inside, none_, _⟩ := List.findIdx?_eq_some_iff_getElem.1 free
  unfold State.slotAt
  rw [List.getElem?_eq_getElem inside]
  simpa using none_

/-- With no slot found for a class and position, no FITTED slot holds them. -/
theorem findSlot_none {s : State} {cls : ComponentClass} {position : Nat} (h : findSlot s.slots cls position = none) {i : Nat}
    {c : Component} (hc : s.slotAt i = some c) : ¬ (c.cls = cls ∧ c.position = position) := by
  have := List.findIdx?_eq_none_iff.1 h (some c) (mem_slots_iff.2 ⟨i, hc⟩)
  simpa [holds] using this

theorem mem_dropReleased {entries : List DamageEntry} {e : DamageEntry} (h : e ∈ dropReleased entries) : e ∈ entries := by
  induction entries with
  | nil => exact h
  | cons x rest ih =>
    unfold dropReleased at h
    split at h
    · exact .tail _ h
    · exact (List.mem_cons.1 h).elim (fun e => e ▸ .head _) (fun h => .tail _ (ih h))

theorem deltasBounded_appendEntry {entries : List DamageEntry} (h : deltasBounded entries) (slot : Nat) (c : Component) :
    deltasBounded (appendEntry entries (damageEntry slot c)) := by
  intro e he
  unfold appendEntry at he
  rcases List.mem_append.1 he with he | he
  · split at he
    · exact h e he
    · exact h e (mem_dropReleased he)
  · obtain rfl := List.mem_singleton.1 he
    exact Nat.zero_le _

theorem place_bounded {s : State} (slot : Nat) (c : Component) (h : registerBounded s.hires.hire s.hires.bucket) :
    registerBounded (s.place slot c).hires.hire (s.place slot c).hires.bucket := by
  rw [place_hire]
  refine ⟨h.1, ?_⟩
  unfold State.place State.handToBucket
  split
  · exact ⟨h.2.1, deltasBounded_appendEntry h.2.2 slot c⟩
  · exact h.2

/-! ### What a restore finds -/

theorem foldl_newerPage {l : List ValidPage} {best : Option ValidPage} :
    (∀ v, l.foldl newerPage best = some v → v ∈ l ∨ best = some v)
      ∧ ∀ u, (u ∈ l ∨ best = some u) → ∃ v, l.foldl newerPage best = some v ∧ u.sequence ≤ v.sequence := by
  induction l generalizing best with
  | nil =>
    refine ⟨fun v hv => .inr hv, fun u hu => ?_⟩
    rcases hu with hu | hu
    · cases hu
    · exact ⟨u, hu, le_rfl⟩
  | cons x rest ih =>
    have new : (newerPage best x = some x ∧ ∀ b, best = some b → b.sequence ≤ x.sequence)
        ∨ (newerPage best x = best ∧ ∃ b, best = some b ∧ x.sequence ≤ b.sequence) := by
      unfold newerPage
      cases best with
      | none => exact .inl ⟨rfl, fun b hb => by cases hb⟩
      | some b =>
        dsimp only
        split
        · exact .inl ⟨rfl, fun c hc => by cases hc; omega⟩
        · exact .inr ⟨rfl, b, rfl, by omega⟩
    obtain ⟨found, above⟩ := ih (best := newerPage best x)
    simp only [List.foldl_cons]
    refine ⟨fun v hv => ?_, fun u hu => ?_⟩
    · rcases found v hv with hv | hv
      · exact .inl (.tail _ hv)
      · rcases new with ⟨e, _⟩ | ⟨e, _⟩ <;> rw [e] at hv
        · exact .inl (Option.some.inj hv ▸ .head _)
        · exact .inr hv
    · rcases new with ⟨e, low⟩ | ⟨e, b, hb, low⟩
      · obtain ⟨v, hv, hx⟩ := above x (.inr e)
        rcases hu with hu | hu
        · rcases List.mem_cons.1 hu with rfl | hu
          · exact ⟨v, hv, hx⟩
          · exact above u (.inl hu)
        · exact ⟨v, hv, (low u hu).trans hx⟩
      · obtain ⟨v, hv, hx⟩ := above b (.inr (e.trans hb))
        rcases hu with hu | hu
        · rcases List.mem_cons.1 hu with rfl | hu
          · exact ⟨v, hv, low.trans hx⟩
          · exact above u (.inl hu)
        · exact above u (.inr (e.trans hu))

theorem mem_validPages {pages : List Page} {v : ValidPage} :
    v ∈ validPages pages ↔ v.sequence ≠ 0 ∧ pages[v.page]? = some (.whole v.sequence v.content) := by
  unfold validPages
  simp only [List.mem_filterMap, Prod.exists, List.mem_zipIdx_iff_getElem?]
  constructor
  · rintro ⟨p, i, hi, hv⟩
    split at hv
    · split at hv
      · cases hv
      · cases hv
        simp_all
    · cases hv
  · rintro ⟨nonzero, hv⟩
    exact ⟨_, _, hv, by simp [nonzero]⟩

/-- What a restore gives the part has every property that the factory state and all the journal's snapshots have. -/
theorem restoredContent_of_every {j : Journal} {good : Snapshot → Prop} (h : j.every good) (factory : good .factory) :
    good (restoredContent j.pages) := by
  unfold restoredContent
  split
  · exact factory
  next v found =>
    have := (foldl_newerPage.1 v found).resolve_right (by simp)
    exact h.1 _ _ (List.mem_of_getElem? (mem_validPages.1 this).2)

theorem restoredJournal_every {j : Journal} {good : Snapshot → Prop} (h : j.every good) :
    (restoredJournal j.pages).every good := ⟨h.1, fun w hw => by cases hw⟩

theorem le_newestSequence_restored {pages : List Page} {i n : Nat} {c : Snapshot} (h : pages[i]? = some (.whole n c)) :
    n ≤ (restoredJournal pages).newestSequence := by
  by_cases zero : n = 0
  · omega
  · obtain ⟨v, found, above⟩ := (foldl_newerPage (l := validPages pages) (best := none)).2 ⟨i, n, c⟩
      (.inl (mem_validPages.2 ⟨zero, h⟩))
    have : newestValid pages = some v := found
    simpa [restoredJournal, this] using above

end Sys2Proof.Proofs
end

section
/-! The laws that every step keeps: what each beginning keeps, and what the moves after it keep. -/
namespace Sys2Proof.Proofs
open Sys2Proof Sys2Proof.Machine

/-- A law that each beginning and each move keeps is kept by every step; taking a command off the queue must not touch it. -/
theorem step_keeps (P : State → Prop) (queue : ∀ s v, P s → P (s.withPending v))
    (begins : ∀ {s u : State}, Begins s u → P s → P u)
    (moves : ∀ {s₀ s t : State}, P s₀ → Move s₀ s t → P s → P t) {s t : State} (start : P s) (h : step s = .next t) : P t := by
  unfold step at h
  split at h
  · exact Host.Outcome.next.inj h ▸ start
  next c rest _ =>
    obtain ⟨u, first, rest_⟩ := exec_moves h
    have begun := begins first (queue s rest start)
    exact rest_.keep P begun (fun m k => moves begun m k)

/-! ### The journal's snapshots at a beginning -/

theorem Begins.keeps_every {s u : State} (b : Begins s u) {good : Snapshot → Prop} (h : s.journal.every good) :
    u.journal.every good := by
  cases b with
  | place p cls slot => rw [place_frame]; exact h
  | powerLoss => exact ⟨h.1, fun w hw => by cases hw⟩
  | restore lines mv => exact restoredJournal_every h
  | _ => exact h

/-! ### The port -/

theorem wf_nil : Memory.wf [] := by decide

theorem Begins.keeps_memoryForm {s u : State} (b : Begins s u) (h : s.port.mem.wf) : u.port.mem.wf := by
  cases b with
  | place p cls slot => rw [place_frame]; exact h
  | same | release => exact h
  | _ => exact wf_nil

theorem Begins.keeps_ringLegal {s u : State} (b : Begins s u) (h : s.ringLegal) : u.ringLegal := by
  cases b with
  | place p cls slot => rw [place_frame]; exact h
  | same | release => exact h
  | _ => exact (by decide : (4 ≤ 16 ∧ 16 ≤ 64) ∧ 0 < 64)

theorem Begins.keeps_quietInReset {s u : State} (b : Begins s u) (h : s.quietInReset) : u.quietInReset := by
  cases b with
  | place p cls slot => rw [place_frame]; exact h
  | same => exact h
  | pinReset => exact fun _ => ⟨rfl, rfl, rfl, rfl, rfl⟩
  | _ => exact fun low => by cases low

/-! ### Hires, depot, routes, tuning, channels, samples -/

theorem Begins.keeps_depotOrHire {s u : State} (b : Begins s u) (h : s.depotOrHire) : u.depotOrHire := by
  cases b with
  | place p cls slot => exact fun d => (place_hire s slot _).trans (h (by rw [place_frame] at d; exact d))
  | same | pinReset | release => exact h
  | _ => exact fun d => by cases d

theorem Begins.keeps_routesLaw {s u : State} (b : Begins s u) (h : s.routesLaw) : u.routesLaw := by
  refine ⟨?_, b.keeps_every h.2⟩
  cases b with
  | place p cls slot => rw [place_frame]; exact h.1
  | powerLoss => exact .nil
  | restore lines mv =>
    have restored : routesDistinct (restoredContent s.journal.pages).routes :=
      restoredContent_of_every (good := fun c => routesDistinct c.routes) h.2 .nil
    simpa [State.restored, Function.comp_def] using restored
  | _ => exact h.1

theorem default_legal : TuneSet.default.legal := by
  refine ⟨?_, ?_, ?_, ?_, ?_, ?_, ?_⟩ <;> decide

theorem Begins.keeps_tuneLaw {s u : State} (b : Begins s u) (h : s.tuneLaw) : u.tuneLaw := by
  refine ⟨?_, b.keeps_every h.2⟩
  cases b with
  | place p cls slot => rw [place_frame]; exact h.1
  | powerLoss => exact default_legal
  | restore lines mv => exact restoredContent_of_every (good := fun c => c.tune.legal) h.2 default_legal
  | _ => exact h.1

/-- The channels as a power-on leaves them are sound under every legal limit. -/
theorem reset_pulse_sound {t : TuneSet} (h : limitLegal t) (ch : Channel) : (State.reset.pulse.get ch).sound t.pulse.limit := by
  cases ch <;> exact h

theorem Begins.keeps_channelLaw {s u : State} (b : Begins s u) (h : s.channelLaw) : u.channelLaw := by
  obtain ⟨limit, sound, every⟩ := h
  have every_ := b.keeps_every every
  cases b with
  | place p cls slot => rw [place_frame] at every_ ⊢; exact ⟨limit, sound, every_⟩
  | powerLoss =>
    have legal : limitLegal TuneSet.default := by unfold limitLegal; decide
    exact ⟨legal, reset_pulse_sound legal, every_⟩
  | restore lines mv =>
    have legal : limitLegal (restoredContent s.journal.pages).tune :=
      restoredContent_of_every (good := fun c => limitLegal c.tune) every (by unfold limitLegal; decide)
    exact ⟨legal, reset_pulse_sound legal, every_⟩
  | _ => exact ⟨limit, sound, every_⟩

theorem Begins.keeps_samplesLaw {s u : State} (b : Begins s u) (h : s.samplesLaw) : u.samplesLaw := by
  cases b with
  | place p cls slot => rw [place_frame]; exact h
  | same | pinReset | release => exact h
  | _ => exact fun _ => rfl

/-! ### The journal -/

theorem Begins.keeps_journalLaw {s u : State} (b : Begins s u) (h : s.journalLaw) : u.journalLaw := by
  have ⟨length, distinct, newest, writing⟩ := h
  cases b with
  | place p cls slot => rw [place_frame]; exact h
  | powerLoss => exact ⟨length, fun _ _ _ _ _ hi => distinct _ _ _ _ _ hi, fun on => Bool.noConfusion on, fun on => Bool.noConfusion on⟩
  | restore lines mv =>
    exact ⟨length, distinct, fun _ _ _ _ hi => le_newestSequence_restored hi, fun _ w hw => by cases hw⟩
  | _ => exact h

/-! ### The component table -/

/-- Each record of the table after a beginning: the placed one, one that stood there before, or a restored one. -/
theorem slots_powerLoss (s : State) (i : Nat) : s.unpowered.slotAt i = none := by
  unfold State.slotAt State.unpowered State.reset
  dsimp only
  rw [List.getElem?_replicate]
  split <;> rfl

theorem slotAt_placed {s : State} {slot i : Nat} {c d : Component} (free : freeSlot s.slots = some slot)
    (h : (s.place slot c).slotAt i = some d) : (i = slot ∧ d = c) ∨ s.slotAt i = some d := by
  rw [slotAt_place s slot c i free] at h
  split at h
  · exact .inl ⟨‹_›, (Option.some.inj h).symm⟩
  · exact .inr h

theorem not_mem_factory_slots {c : Component} : some c ∉ Snapshot.factory.slots := by
  simp [Snapshot.factory]

theorem not_mem_unpowered_slots {s : State} {c : Component} : some c ∉ s.unpowered.slots := by
  simp [State.unpowered, State.reset]

theorem Begins.keeps_placesLaw {s u : State} (b : Begins s u) (h : s.placesLaw) : u.placesLaw := by
  refine ⟨?_, b.keeps_every h.2⟩
  cases b with
  | place p cls slot checked free =>
    obtain ⟨_, none_, _⟩ := checkFit_ok checked
    have fresh {i : Nat} {c : Component} (hc : s.slotAt i = some c) (hcls : c.cls = (s.fittedRecord p cls).cls)
        (hpos : c.position = (s.fittedRecord p cls).position) : False :=
      findSlot_none none_ hc ⟨hcls.trans (fittedRecord_cls s p cls), hpos⟩
    intro i j c d hi hj hcls hpos
    rcases slotAt_placed free (slotAt_eq_some.2 hi) with ⟨rfl, rfl⟩ | hc <;>
      rcases slotAt_placed free (slotAt_eq_some.2 hj) with ⟨rfl, rfl⟩ | hd
    · rfl
    · exact (fresh hd hcls.symm hpos.symm).elim
    · exact (fresh hc hcls hpos).elim
    · exact h.1 i j c d (slotAt_eq_some.1 hc) (slotAt_eq_some.1 hd) hcls hpos
  | powerLoss => exact fun i j c d hi => absurd (List.mem_of_getElem? hi) not_mem_unpowered_slots
  | restore lines mv =>
    exact restoredContent_of_every (good := fun c => distinctPlaces c.slots) h.2
      fun i j c d hi => absurd (List.mem_of_getElem? hi) not_mem_factory_slots
  | _ => exact h.1

theorem mem_placed {s : State} {slot : Nat} {c d : Component} (free : freeSlot s.slots = some slot)
    (h : some d ∈ (s.place slot c).slots) : d = c ∨ some d ∈ s.slots := by
  obtain ⟨i, hi⟩ := mem_slots_iff.1 h
  rcases slotAt_placed free hi with ⟨_, e⟩ | hd
  · exact .inl e
  · exact .inr (mem_slots_iff.2 ⟨i, hd⟩)

theorem default_gatesLegal : gatesLegal TuneSet.default := by
  unfold gatesLegal
  decide

theorem Begins.keeps_residueLaw {s u : State} (b : Begins s u) (h : s.residueLaw) : u.residueLaw := by
  refine ⟨?_, b.keeps_every h.2⟩
  cases b with
  | place p cls slot checked free =>
    refine ⟨fun d hd r hr => ?_, by rw [place_frame]; exact h.1.2⟩
    rcases mem_placed free hd with rfl | hd
    · exact (fittedRecord_lawful checked).2.2 r hr
    · exact h.1.1 d hd r hr
  | powerLoss => exact ⟨fun c hc => absurd hc not_mem_unpowered_slots, default_gatesLegal⟩
  | restore lines mv =>
    exact restoredContent_of_every (good := fun c => residuesLawful c.slots ∧ gatesLegal c.tune) h.2
      ⟨fun c hc => absurd hc not_mem_factory_slots, default_gatesLegal⟩
  | _ => exact h.1

theorem factory_register_bounded : registerBounded none .factory := by
  refine ⟨fun _ hh => (Option.some_ne_none _ hh.symm).elim, ?_, fun _ he => absurd he List.not_mem_nil⟩
  simp only [Bucket.factory, Counts.bounded, StartCounts.bounded, Counts.zero, StartCounts.zero]
  decide

theorem factory_counted : Snapshot.factory.counted :=
  ⟨fun _ hc => absurd hc not_mem_factory_slots, fun _ hc => absurd hc not_mem_factory_slots, factory_register_bounded,
    fun h hh => by cases hh⟩

theorem reset_tallies_bounded : State.reset.intake.tallies.bounded := by
  intro k
  cases k <;> exact Nat.zero_le _

theorem Begins.keeps_countersLaw {s u : State} (b : Begins s u) (h : s.countersLaw) : u.countersLaw := by
  have ⟨⟨bodies, fit, register⟩, tallies, ⟨apart, deltas⟩, every⟩ := h
  have apart_ := b.keeps_depotOrHire apart
  have every_ := b.keeps_every every
  cases b with
  | place p cls slot checked free =>
    obtain ⟨inDepot, _, _⟩ := checkFit_ok checked
    obtain ⟨lawful, count, _⟩ := fittedRecord_lawful checked
    refine ⟨⟨fun d hd => ?_, fun d hd => ?_, place_bounded slot _ register⟩, by rw [place_frame]; exact tallies,
      ⟨apart_, fun k hk => ?_⟩, every_⟩
    · exact (mem_placed free hd).elim (fun e => e ▸ lawful) (bodies d)
    · exact (mem_placed free hd).elim (fun e => e ▸ count) (fit d)
    · rw [place_hire, apart inDepot] at hk
      cases hk
  | powerLoss =>
    exact ⟨⟨fun _ hc => absurd hc not_mem_unpowered_slots, fun _ hc => absurd hc not_mem_unpowered_slots,
      factory_register_bounded⟩, reset_tallies_bounded, ⟨apart_, fun _ hk => by cases hk⟩, every_⟩
  | restore lines mv =>
    obtain ⟨bodies_, fit_, register_, deltas_⟩ := restoredContent_of_every every factory_counted
    exact ⟨⟨bodies_, fit_, register_⟩, reset_tallies_bounded, ⟨apart_, deltas_⟩, every_⟩
  | _ => exact h

/-! ### Every step -/

/-- Settles O4: every beginning and every move keeps it. -/
theorem stepKeepsMemoryForm : Obligations.StepKeepsMemoryForm := fun _ _ start h =>
  step_keeps (fun s => s.port.mem.wf) (fun _ _ k => k) Begins.keeps_memoryForm (fun _ m k => m.keeps_memoryForm k) start h

/-- Settles O5: every beginning and every move keeps it. -/
theorem stepKeepsRingAndCursor : Obligations.StepKeepsRingAndCursor := fun _ _ start h =>
  step_keeps State.ringLegal (fun _ _ k => k) Begins.keeps_ringLegal (fun b m k => m.keeps_ringLegal b k) start h

/-- Settles O6: a move that could stir the quiet port has RESETn high. -/
theorem stepKeepsResetQuiet : Obligations.StepKeepsResetQuiet := fun _ _ start h =>
  step_keeps State.quietInReset (fun _ _ k => k) Begins.keeps_quietInReset (fun b m k => m.keeps_quietInReset b k) start h

/-- Settles O7: every beginning and every move keeps it. -/
theorem stepKeepsDepotAndHireApart : Obligations.StepKeepsDepotAndHireApart := fun _ _ start h =>
  step_keeps State.depotOrHire (fun _ _ k => k) Begins.keeps_depotOrHire (fun _ m k => m.keeps_depotOrHire k) start h

/-- Settles O8: every beginning and every move keeps it. -/
theorem stepKeepsChannelLaw : Obligations.StepKeepsChannelLaw := fun _ _ start h =>
  step_keeps State.channelLaw (fun _ _ k => k) Begins.keeps_channelLaw (fun _ m k => m.keeps_channelLaw k) start h

/-- Settles O9: FIT alone fills a slot, with a pair that no FITTED slot holds. -/
theorem stepKeepsPlacesDistinct : Obligations.StepKeepsPlacesDistinct := fun _ _ start h =>
  step_keeps State.placesLaw (fun _ _ k => k) Begins.keeps_placesLaw (fun _ m k => m.keeps_placesLaw k) start h

/-- Settles O10: every beginning and every move keeps both laws. -/
theorem stepKeepsResidueLaw : Obligations.StepKeepsResidueLaw :=
  ⟨fun _ _ start h =>
      step_keeps State.residueLaw (fun _ _ k => k) Begins.keeps_residueLaw (fun _ m k => m.keeps_residueLaw k) start h,
    fun _ _ start h =>
      step_keeps State.samplesLaw (fun _ _ k => k) Begins.keeps_samplesLaw (fun _ m k => m.keeps_samplesLaw k) start h⟩

/-- Settles O11: every beginning and every move keeps it. -/
theorem stepKeepsCounterLaw : Obligations.StepKeepsCounterLaw := fun _ _ start h =>
  step_keeps State.countersLaw (fun _ _ k => k) Begins.keeps_countersLaw (fun _ m k => m.keeps_countersLaw k) start h

/-- Settles O12: ROUTE alone replaces the table, with entries it has checked to be distinct. -/
theorem stepKeepsRoutesDistinct : Obligations.StepKeepsRoutesDistinct := fun _ _ start h =>
  step_keeps State.routesLaw (fun _ _ k => k) Begins.keeps_routesLaw (fun _ m k => m.keeps_routesLaw k) start h

/-- Settles O13: every section is read clamped and checked. -/
theorem stepKeepsTuneLegal : Obligations.StepKeepsTuneLegal := fun _ _ start h =>
  step_keeps State.tuneLaw (fun _ _ k => k) Begins.keeps_tuneLaw (fun _ m k => m.keeps_tuneLaw k) start h

/-- Settles O14: every beginning and every move keeps it. -/
theorem stepKeepsJournalLaw : Obligations.StepKeepsJournalLaw := fun _ _ start h =>
  step_keeps State.journalLaw (fun _ _ k => k) Begins.keeps_journalLaw (fun _ m k => m.keeps_journalLaw k) start h

/-! ### No counter falls -/

theorem Moves.neverFalls {s₀ s : State} (h : Moves s₀ s) (lawful : bodiesLawful s₀.slots) :
    bodiesLawful s.slots ∧ ∀ i b, s.slotAt i = some b → ∃ a, s₀.slotAt i = some a ∧ SameHeader a b ∧ a.body.atLeast b.body := by
  refine h.keep (fun s => bodiesLawful s.slots ∧
    ∀ i b, s.slotAt i = some b → ∃ a, s₀.slotAt i = some a ∧ SameHeader a b ∧ a.body.atLeast b.body)
    ⟨lawful, fun i b hb => ⟨b, hb, SameHeader.refl b, atLeast_refl _⟩⟩ fun m ⟨bodies, from_⟩ => ?_
  refine ⟨m.descends.bodies bodies, fun i d hd => ?_⟩
  obtain ⟨c, hc, header, move⟩ := m.descends i d hd
  obtain ⟨a, ha, header_, atLeast⟩ := from_ i c hc
  exact ⟨a, ha, header_.trans header, atLeast_trans atLeast (move.counts (bodies c (mem_slots_iff.2 ⟨i, hc⟩))).2⟩

/-- A beginning that keeps the supply leaves every FITTED slot as it stands: FIT fills a FREE one. -/
theorem Begins.fitted_stays {s u : State} (b : Begins s u) (on : s.powered = true) (still : u.powered = true)
    (lawful : bodiesLawful s.slots) :
    bodiesLawful u.slots ∧ ∀ i a, s.slotAt i = some a → u.slotAt i = some a := by
  cases b with
  | place p cls slot checked free =>
    refine ⟨fun d hd => (mem_placed free hd).elim (fun e => e ▸ (fittedRecord_lawful checked).1) (lawful d), fun i a ha => ?_⟩
    rw [slotAt_place s slot _ i free, if_neg]
    · exact ha
    · rintro rfl
      rw [slotAt_free free] at ha
      cases ha
  | powerLoss => cases still
  | restore lines mv off => exact absurd on (by simp [off])
  | _ => exact ⟨lawful, fun i a ha => ha⟩

/-- Settles O15: only FIT fills a slot, one that was FREE; and no move lowers a counter or touches a header. -/
theorem countersNeverFall : Obligations.CountersNeverFall := by
  intro c s t lawful on h still i a b ha hb
  obtain ⟨u, first, rest⟩ := exec_moves h
  obtain ⟨lawful_, stays⟩ := first.fitted_stays on (rest.powered ▸ still) lawful
  obtain ⟨d, hd, header, atLeast⟩ := (rest.neverFalls lawful_).2 i b hb
  obtain rfl : a = d := Option.some.inj ((stays i a ha).symm.trans hd)
  exact ⟨header, atLeast⟩

end Sys2Proof.Proofs
end

section
/-! The machine at its edges: the front command, the reset state, the port's registers. -/
namespace Sys2Proof.Proofs
open Sys2Proof Sys2Proof.Machine

/-! ### A command that acts -/

/-- With supply a command does what its block says. -/
theorem act_on {s : State} (on : s.powered = true) (f : State → State) : s.act f = .next (f s) := by
  simp [State.act, on]

/-- At a live port a transaction does what its register says. -/
theorem transact_live {s : State} (live : s.live) (f : State → State) : s.transact f = .next (f s) := by
  simp [State.transact, act_on live.1, live.2]

/-- While RESETn is low a transaction does nothing (R153). -/
theorem transact_low {s : State} (low : s.resetLow = true) (f : State → State) : s.transact f = .next s := by
  simp [State.transact, State.act, low]

/-- Settles O1: both by the definition of a step. -/
theorem stepRunsTheFrontCommand : Obligations.StepRunsTheFrontCommand :=
  ⟨fun _ _ _ => rfl, fun s h => by simp [step, h]⟩

set_option maxRecDepth 20000 in
/-- Settles O2: the power-on of the blank part is evaluated. -/
theorem resetIsPowerOnOfABlankPart : Obligations.ResetIsPowerOnOfABlankPart :=
  ⟨rfl, rfl, rfl, rfl, rfl, rfl, rfl, rfl, rfl, rfl, rfl, rfl⟩

theorem reset_every (good : Snapshot → Prop) : State.reset.journal.every good :=
  ⟨fun _ _ h => by simp [State.reset, Journal.factory] at h, fun _ h => by cases h⟩

theorem not_mem_reset_slots {c : Component} : some c ∉ State.reset.slots := by simp [State.reset]

theorem reset_page_not_whole {i n : Nat} {c : Snapshot} : State.reset.journal.pages[i]? ≠ some (.whole n c) := fun h => by
  simpa [State.reset, Journal.factory] using List.mem_of_getElem? h

/-- Settles O3: the table is empty, no page is whole, and every other field is looked at. -/
theorem resetMeetsEveryLaw : Obligations.ResetMeetsEveryLaw :=
  ⟨reset_mem_wf, by decide, fun low => absurd low Bool.false_ne_true, by decide,
    ⟨by unfold limitLegal; decide, reset_pulse_sound (t := TuneSet.default) (by unfold limitLegal; decide), reset_every _⟩,
    ⟨fun _ _ _ _ h => absurd (List.mem_of_getElem? h) not_mem_reset_slots, reset_every _⟩,
    ⟨⟨fun _ h => absurd h not_mem_reset_slots, default_gatesLegal⟩, reset_every _⟩, fun _ => rfl,
    ⟨⟨fun _ h => absurd h not_mem_reset_slots, fun _ h => absurd h not_mem_reset_slots, factory_register_bounded⟩,
      reset_tallies_bounded, ⟨by decide, fun _ h => (Option.some_ne_none _ h.symm).elim⟩, reset_every _⟩,
    ⟨rfl, fun _ _ _ _ _ h => absurd h reset_page_not_whole, fun _ _ _ _ h => absurd h reset_page_not_whole,
      fun _ _ h => (Option.some_ne_none _ h.symm).elim⟩,
    ⟨.nil, reset_every _⟩, ⟨default_legal, reset_every _⟩⟩

/-! ### The port -/

/-- An address written low byte first is read back (12.2). -/
theorem address_bytes (addr : BitVec 16) : ((addr >>> 8).setWidth 8 ++ addr.setWidth 8 : BitVec 16) = addr := by
  refine BitVec.eq_of_getLsbD_eq fun i h => ?_
  rw [BitVec.getLsbD_append]
  by_cases low : i < 8
  · simp [low]
  · simp [low, Nat.add_sub_of_le (Nat.le_of_not_lt low)]
    omega

/-- Settles O16, command by command of the port. -/
theorem transactionsDecodeToTheirCommands : Obligations.TransactionsDecodeToTheirCommands := by
  intro i bytes wellFormed encoded
  cases i with
  | registerWriteIgnored op addr data =>
    obtain rfl := Option.some.inj encoded
    simp only [Instr.wellFormed, ignoredTransaction] at wellFormed
    simp only [transactionBytes, decodeTransaction, address_bytes, decodeRegisterWrite]
    split_ifs at wellFormed ⊢ <;> simp_all
  | ringWrite data | noticeWrite data | noticeMaskWrite data | nudge =>
    obtain rfl := Option.some.inj encoded
    simp [transactionBytes, decodeTransaction, decodeRegisterWrite]
  | exchangeMemoryWrite addr data =>
    obtain rfl := Option.some.inj encoded
    simp only [transactionBytes, decodeTransaction, address_bytes, if_pos]
  | _ => cases encoded

theorem notice_bit_lt (n : Notice) : n.bit < 12 := by cases n <;> decide

/-- Each of the twelve bits is a notice's. -/
theorem exists_notice_bit {i : Nat} (h : i < 12) : ∃ n : Notice, n.bit = i := by
  have all : ∀ j : Fin 12, ∃ n ∈ [Notice.slip, .checkpoint, .torn, .lowSupply, .hold, .channel, .supply, .quantity, .abuse,
      .residue, .depot, .route], n.bit = j.val := by decide
  obtain ⟨n, _, hn⟩ := all ⟨i, h⟩
  exact ⟨n, hn⟩

/-- Both bytes of a register written are its 12 bits (12.2). -/
theorem writtenBits_two (old : BitVec 12) (lo hi : Byte) (rest : List Byte) :
    writtenBits old (lo :: hi :: rest) = (hi ++ lo : BitVec 16).setWidth 12 := by
  unfold writtenBits
  ext i h
  simp only [BitVec.getElem_or, BitVec.getElem_shiftLeft, BitVec.getElem_setWidth, BitVec.getLsbD_append]
  by_cases low : i < 8
  · simp [low]
  · simp [low, BitVec.getLsbD_of_ge lo i (Nat.le_of_not_lt low)]

/-- ATTN is low exactly while some notice is set whose mask bit is clear (R152). -/
theorem attnLow_iff (s : State) : s.attnLow = true ↔ ∃ n : Notice, s.noticeSet n = true ∧ s.port.mask.getLsbD n.bit = false := by
  have bits : s.attnLow = true ↔ ∃ i, (s.port.notice &&& ~~~s.port.mask).getLsbD i = true := by
    simp only [State.attnLow, decide_eq_true_eq, ne_eq]
    constructor
    · intro nonzero
      by_contra none_
      exact nonzero (BitVec.eq_of_getLsbD_eq fun i _ => by simpa using not_exists.1 none_ i)
    · rintro ⟨i, hi⟩ zero
      simp [zero] at hi
  rw [bits]
  constructor
  · rintro ⟨i, hi⟩
    have lt := BitVec.lt_of_getLsbD hi
    obtain ⟨n, rfl⟩ := exists_notice_bit lt
    exact ⟨n, by simp_all [State.noticeSet], by simp_all⟩
  · rintro ⟨n, set_, clear⟩
    exact ⟨n.bit, by simp_all [State.noticeSet, notice_bit_lt n]⟩

/-- Settles O17: each write is its register's definition, read bit by bit. -/
theorem registerWritesStoreTheirBits : Obligations.RegisterWritesStoreTheirBits := by
  refine ⟨fun b rest s live => ?_, fun lo hi rest s live => ?_, fun lo hi rest s live => ?_⟩
  · unfold exec execRingWrite
    exact transact_live live _
  · unfold exec execNoticeWrite
    refine ⟨_, transact_live live _, fun n => ?_⟩
    simp [writtenBits_two, State.noticeSet, notice_bit_lt n]
  · unfold exec execNoticeMaskWrite
    refine ⟨_, transact_live live _, by rw [writtenBits_two]; rfl, ?_⟩
    rw [attnLow_iff]
    simp [writtenBits_two, State.noticeSet, notice_bit_lt]

/-- Settles O18: a transaction that RESETn discards, or whose work is none. -/
theorem portIgnoresWhatItMust : Obligations.PortIgnoresWhatItMust := by
  refine ⟨fun op addr data s => ?_, fun s low => ⟨fun data => ?_, ?_, fun op addr n => ?_⟩⟩
  · simp [exec, execRegisterWriteIgnored, State.transact, State.act]
  · unfold exec execRingWrite execNoticeWrite execNoticeMaskWrite execExchangeMemoryWrite
    exact ⟨transact_low low _, transact_low low _, transact_low low _, fun addr => transact_low low _⟩
  · simp [exec, execNudge, State.act, low]
  · simp [State.spiRead, low]

/-- Settles O19: what was written reads back, and no other byte changed. -/
theorem memoryWriteReadsBack : Obligations.MemoryWriteReadsBack := by
  intro addr data s live form short
  unfold exec execExchangeMemoryWrite
  refine ⟨_, transact_live live _, rfl, fun i h => ?_, fun a inside out => ?_⟩
  · have wrapped (t : State) (c : Nat) : t.byteAt (c % Config.memorySize) = t.byteAt c := by
      simp [State.byteAt, memGet]
    rw [wrapped]
    exact s.store_byteAt_inside _ i data form.1 h short
  · refine s.store_byteAt_outside _ a data form.1 fun i h same => out ⟨i, h, ?_⟩
    rwa [Nat.mod_eq_of_lt inside] at same

theorem leBytes_two_toNat (v : BitVec 12) : leBytes 2 v.toNat = [v.setWidth 8, (v >>> 8).setWidth 8] := by
  simp only [leBytes, List.cons.injEq, and_true]
  constructor <;> bv_omega

/-- Settles O20: each register read within its width and beyond it. -/
theorem registersReadTheirValues : Obligations.RegistersReadTheirValues := by
  intro s live
  have reads (addr : BitVec 16) (n : Nat) : s.spiRead 0x0A addr n = padTo n (s.portRegister addr.toNat) := by
    simp [State.spiRead, live.1, live.2]
  refine ⟨by rw [reads]; rfl, by rw [reads]; rfl, by rw [reads]; rfl, ?_, ?_, fun addr beyond => ?_, fun addr => ?_⟩
  · rw [reads]
    show padTo 3 (leBytes 2 s.port.notice.toNat) = _
    rw [leBytes_two_toNat]
    rfl
  · rw [reads]
    show padTo 3 (leBytes 2 s.port.mask.toNat) = _
    rw [leBytes_two_toNat]
    rfl
  · rw [reads]
    have : s.portRegister addr.toNat = [] := by
      unfold State.portRegister
      split <;> first | omega | rfl
    rw [this]
    rfl
  · simp [State.spiRead, live.1, live.2, memBytes, State.byteAt, List.range_succ]

end Sys2Proof.Proofs
end

section
/-! Exchange memory byte by byte: what a byte reads after a store, and what a field of several bytes reads. -/
namespace Sys2Proof.Proofs
open Sys2Proof Sys2Proof.Machine

/-! ### Bytes -/

@[simp] theorem leBytes_length (k n : Nat) : (leBytes k n).length = k := by
  induction k generalizing n with
  | zero => rfl
  | succ k ih => simp [leBytes, ih]

/-- Fields of the same bytes are the same number. -/
theorem memLe_congr {m m' : Memory} {k a : Nat} (h : ∀ i, i < k → memGet m' (a + i) = memGet m (a + i)) :
    memLe m' k a = memLe m k a := by
  induction k generalizing a with
  | zero => rfl
  | succ k ih =>
    have first : memGet m' a = memGet m a := h 0 (Nat.succ_pos k)
    have rest : memLe m' k (a + 1) = memLe m k (a + 1) := ih fun i hi => by
      have := h (i + 1) (Nat.succ_lt_succ hi)
      rwa [show a + (i + 1) = a + 1 + i by omega] at this
    simp only [memLe, first, rest]

/-- A field that holds the low bytes of a number is that number, modulo its width. -/
theorem memLe_of_leBytes {m : Memory} {k a n : Nat} (h : ∀ i, i < k → memGet m (a + i) = (leBytes k n).getD i 0) :
    memLe m k a = n % 256 ^ k := by
  induction k generalizing a n with
  | zero => simp [memLe, Nat.mod_one]
  | succ k ih =>
    have first : memGet m a = BitVec.ofNat 8 n := by simpa [leBytes] using h 0 (Nat.succ_pos k)
    have rest : memLe m k (a + 1) = n / 256 % 256 ^ k := ih fun i hi => by
      have := h (i + 1) (Nat.succ_lt_succ hi)
      rw [show a + (i + 1) = a + 1 + i by omega] at this
      simpa [leBytes] using this
    rw [memLe, first, rest, BitVec.toNat_ofNat, show 256 ^ (k + 1) = 256 * 256 ^ k from Nat.pow_succ', Nat.mod_mul]

/-- Exchange memory alone says what a byte reads. -/
theorem byteAt_congr {s t : State} (h : t.port.mem = s.port.mem) (c : Nat) : t.byteAt c = s.byteAt c := by
  unfold State.byteAt
  rw [h]

@[simp] theorem byteAt_setNotice (s : State) (n : Notice) (c : Nat) : (s.setNotice n).byteAt c = s.byteAt c := by
  unfold State.setNotice
  split <;> rfl

@[simp] theorem mem_setNotice (s : State) (n : Notice) : (s.setNotice n).port.mem = s.port.mem := by
  unfold State.setNotice
  split <;> rfl

theorem notice_setNotice {s : State} (high : s.resetLow = false) (n : Notice) :
    (s.setNotice n).port.notice = s.port.notice ||| n.mask := by
  rw [s.setNotice_live n high]

/-- A byte after a store inside the memory: one of the bytes stored, or the byte as it was. -/
theorem byteAt_store {s : State} (form : s.port.mem.wf) {a c : Nat} {bytes : List Byte}
    (fits : a + bytes.length ≤ Config.memorySize) (inside : c < Config.memorySize) :
    (s.store a bytes).byteAt c = if a ≤ c ∧ c < a + bytes.length then bytes.getD (c - a) 0 else s.byteAt c := by
  split
  next among =>
    obtain ⟨i, rfl⟩ := Nat.exists_eq_add_of_le among.1
    have hi : i < bytes.length := by omega
    rw [s.store_byteAt_inside a i bytes form.1 hi (by omega)]
    simp [hi]
  next out =>
    exact s.store_kept a bytes (within a bytes.length) form fits (fun _ h => h) c inside out

/-- At a live port a field published is stored. -/
theorem byteAt_publish {s : State} (form : s.port.mem.wf) (high : s.resetLow = false) {a c : Nat} {bytes : List Byte}
    (fits : a + bytes.length ≤ Config.memorySize) (inside : c < Config.memorySize) :
    (s.publish a bytes).byteAt c = if a ≤ c ∧ c < a + bytes.length then bytes.getD (c - a) 0 else s.byteAt c := by
  rw [s.publish_live a bytes high]
  exact byteAt_store form fits inside

/-- A number stored inside the memory reads back, modulo the width of its field. -/
theorem memLe_store {s : State} (form : s.port.mem.wf) {a k n : Nat} (fits : a + k ≤ Config.memorySize) :
    memLe (s.store a (leBytes k n)).port.mem k a = n % 256 ^ k :=
  memLe_of_leBytes fun i hi => by
    have := byteAt_store (bytes := leBytes k n) (c := a + i) form (by simpa using fits) (by omega)
    rw [if_pos ⟨by omega, by simp; omega⟩] at this
    simpa [State.byteAt] using this

/-- A field that a store leaves out reads as before. -/
theorem memLe_kept {s t : State} {changed : Nat → Prop} (kept : bytesKept s t changed) {k a : Nat}
    (fits : a + k ≤ Config.memorySize) (out : ∀ i, i < k → ¬ changed (a + i)) : memLe t.port.mem k a = memLe s.port.mem k a :=
  memLe_congr fun i hi => kept (a + i) (by omega) (out i hi)

theorem bytesKept_mono {s t : State} {p q : Nat → Prop} (h : bytesKept s t p) (pq : ∀ a, p a → q a) : bytesKept s t q :=
  fun a inside out => h a inside fun ha => out (pq a ha)

theorem bytesKept_of_mem {s t : State} (h : t.port.mem = s.port.mem) (changed : Nat → Prop) : bytesKept s t changed :=
  fun a _ _ => byteAt_congr h a

/-! ### The scanner's published bytes -/

theorem setScanner_wf {s : State} (form : s.port.mem.wf) (v : Scanner) : (s.setScanner v).port.mem.wf := by
  unfold State.setScanner State.publishScanner
  split
  · exact form
  · exact State.publish_wf _ _ _ form

/-- A change of the scanner rewrites its state and its cursor at most. -/
theorem setScanner_kept {s : State} (form : s.port.mem.wf) (v : Scanner) : bytesKept s (s.setScanner v) scannerBytes := by
  unfold State.setScanner State.publishScanner
  split
  · exact bytesKept_of_mem rfl _
  · refine State.publish_kept (s.withScanner v) _ _ scannerBytes form (by simp [Config.memorySize]) fun c hc => ?_
    unfold within at hc
    simp only [List.length_append, leBytes_length] at hc
    unfold scannerBytes
    omega

/-- With its state changed at a live port, both are shown. -/
theorem setScanner_shown {s : State} (form : s.port.mem.wf) (high : s.resetLow = false) {v : Scanner}
    (moved : v.state ≠ s.scanner.state) :
    (s.setScanner v).byteAt 0x09 = BitVec.ofNat 8 v.state.code ∧ (s.setScanner v).byteAt 0x0A = BitVec.ofNat 8 v.cursor := by
  unfold State.setScanner State.publishScanner
  rw [if_neg fun same => moved same.1]
  constructor
  · rw [byteAt_publish (s := s.withScanner v) form high (by simp [Config.memorySize]) (by decide)]
    rfl
  · rw [byteAt_publish (s := s.withScanner v) form high (by simp [Config.memorySize]) (by decide)]
    rfl

end Sys2Proof.Proofs
end

section
/-! The slip scanner: a reading of the ring, nudges, the return of a slip, NOP and SAVE. -/
namespace Sys2Proof.Proofs
open Sys2Proof Sys2Proof.Machine

/-! ### A reading of the ring -/

/-- A DEVICE slip of one of the twelve kinds is taken with its fields as they stand (R147). -/
theorem readSlips_taken {s : State} {kind : SlipKind} (n : Nat) (owned : s.ownedByDevice s.scanner.cursor = true)
    (known : kindOfCode (s.byteAt (slipAddress s.scanner.cursor + 1)).toNat = some kind) :
    readSlips (n + 1) s =
      s.withScanner { s.scanner with held := some ⟨readSlip s.port.mem (slipAddress s.scanner.cursor) kind, 0, 0⟩ } := by
  have device : s.byteAt (slipAddress s.scanner.cursor) = BitVec.ofNat 8 Config.ownerDevice := of_decide_eq_true owned
  simp only [readSlips, device, if_true, known]

/-- A DEVICE slip of no kind is returned at once, and the next slip is read (R148). -/
theorem readSlips_unknown {s : State} (n : Nat) (owned : s.ownedByDevice s.scanner.cursor = true)
    (unknown : kindOfCode (s.byteAt (slipAddress s.scanner.cursor + 1)).toNat = none)
    (good : (readSlip s.port.mem (slipAddress s.scanner.cursor) .nop).referencesGood = true) :
    readSlips (n + 1) s =
      readSlips n (s.giveBack (readSlip s.port.mem (slipAddress s.scanner.cursor) .nop) (refusal .badKind)) := by
  have device : s.byteAt (slipAddress s.scanner.cursor) = BitVec.ofNat 8 Config.ownerDevice := of_decide_eq_true owned
  simp only [readSlips, device, if_true, unknown, good]

/-- At a HOST slip the scanner goes IDLE, a pending nudge cleared and the slip read once more before it (R147). -/
theorem readSlips_host {s : State} (n : Nat) (host : s.ownedByDevice s.scanner.cursor = false) :
    readSlips (n + 2) s = s.setScanner { s.scanner with state := .idle, nudgePending := false } := by
  have other : s.byteAt (slipAddress s.scanner.cursor) ≠ BitVec.ofNat 8 Config.ownerDevice := of_decide_eq_false host
  cases pending : s.scanner.nudgePending with
  | false =>
    simp only [readSlips, other, if_false, pending, Bool.false_eq_true]
  | true =>
    have again : (s.withScanner { s.scanner with nudgePending := false }).byteAt (slipAddress s.scanner.cursor)
        ≠ BitVec.ofNat 8 Config.ownerDevice := other
    simp only [readSlips, other, again, if_false, pending, if_true, State.withScanner_scanner, Bool.false_eq_true]
    rfl

/-! ### Addresses of slips -/

theorem slipAddress_bounds {i : Nat} (h : i < 64) : 0x100 ≤ slipAddress i ∧ slipAddress i + 16 ≤ 0x500 := by
  unfold slipAddress Config.ringBase
  omega

theorem slipAddress_apart {i j : Nat} (h : i ≠ j) : slipAddress i + 16 ≤ slipAddress j ∨ slipAddress j + 16 ≤ slipAddress i := by
  unfold slipAddress
  omega

/-- A slip whose 16 bytes are as before reads as before. -/
theorem readSlip_congr {m m' : Memory} {a : Nat} (h : ∀ i, i < 16 → memGet m' (a + i) = memGet m (a + i)) (kind : SlipKind) :
    readSlip m' a kind = readSlip m a kind := by
  have field (k b : Nat) (hb : b + k ≤ 16) : memLe m' k (a + b) = memLe m k (a + b) :=
    memLe_congr fun i hi => by
      have := h (b + i) (by omega)
      rwa [← Nat.add_assoc] at this
  simp only [readSlip, h 2 (by decide), field 2 6 (by decide), field 2 8 (by decide), field 2 10 (by decide),
    field 2 12 (by decide)]

/-- Bytes of a slip in the ring that lie outside what has changed. -/
theorem slip_kept {s t : State} {changed : Nat → Prop} (kept : bytesKept s t changed) {i : Nat} (ring : i < 64)
    (out : ∀ j, j < 16 → ¬ changed (slipAddress i + j)) {j : Nat} (hj : j < 16) :
    t.byteAt (slipAddress i + j) = s.byteAt (slipAddress i + j) := by
  have := slipAddress_bounds ring
  exact kept _ (by unfold Config.memorySize; omega) (out j hj)

theorem scannerBytes_below_ring {i j : Nat} : ¬ scannerBytes (slipAddress i + j) := by
  unfold scannerBytes slipAddress Config.ringBase
  omega

/-! ### Nudges -/

theorem exec_nudge {s : State} (live : s.live) : exec .nudge s = .next s.takeNudge := by
  unfold exec execNudge
  rw [act_on live.1, live.2]
  rfl

theorem takeNudge_busy {s : State} (busy : s.scanner.state ≠ .idle) :
    s.takeNudge = { s with scanner := { s.scanner with nudgePending := true } } := by
  unfold State.takeNudge
  rw [if_neg busy]
  rfl

theorem takeNudge_idle {s : State} (idle : s.scanner.state = .idle) :
    s.takeNudge = readSlips readingLimit (s.setScanner { s.scanner with state := .scanning }) := by
  unfold State.takeNudge
  rw [if_pos idle]

theorem exec_selfPollExpiry {s : State} (live : s.live) (run : s.supply.power = .run) {ms : Nat}
    (running : s.scanner.selfPoll = .running ms) :
    exec .selfPollExpiry s = exec .nudge { s with scanner := { s.scanner with selfPoll := .running 1000 } } := by
  rw [exec_nudge (s := { s with scanner := { s.scanner with selfPoll := .running 1000 } }) live]
  unfold exec execSelfPollExpiry
  rw [act_on live.1]
  simp only [run, running, Timer.isRunning, and_self, if_true]
  rfl

/-- The scanner set SCANNING from IDLE reads the ring as it stood. -/
theorem scanning_shown {s : State} (live : s.live) (form : s.port.mem.wf) (idle : s.scanner.state = .idle) :
    let t := s.setScanner { s.scanner with state := .scanning }
    t.byteAt 0x09 = 1 ∧ t.byteAt 0x0A = BitVec.ofNat 8 s.scanner.cursor ∧ bytesKept s t scannerBytes := by
  obtain ⟨state, cursor⟩ := setScanner_shown (v := { s.scanner with state := .scanning }) form live.2 (by simp [idle])
  exact ⟨state, cursor, setScanner_kept form _⟩

/-- Settles O21: a nudge at an IDLE scanner sets it SCANNING, and the reading takes the slip or ends at a HOST slip. -/
theorem nudgesReachTheScanner : Obligations.NudgesReachTheScanner := by
  refine ⟨⟨fun s live busy => ?_, fun s ms live run running => ⟨exec_selfPollExpiry live run running, fun busy => ?_⟩⟩,
    fun s live form ring idle => ?_⟩
  · rw [exec_nudge live, takeNudge_busy busy]
  · rw [exec_selfPollExpiry live run running, exec_nudge (by exact live), takeNudge_busy (by exact busy)]
  · rw [exec_nudge live, takeNudge_idle idle]
    obtain ⟨shown9, shownA, kept⟩ := scanning_shown live form idle
    have frame := s.setScanner_frame { s.scanner with state := .scanning }
    have wf := setScanner_wf form { s.scanner with state := .scanning }
    generalize s.setScanner { s.scanner with state := .scanning } = t at shown9 shownA kept frame wf ⊢
    have scanner : t.scanner = { s.scanner with state := .scanning } := by rw [frame]
    have slip {j : Nat} (hj : j < 16) : t.byteAt (slipAddress s.scanner.cursor + j) = s.byteAt (slipAddress s.scanner.cursor + j) :=
      slip_kept kept ring.2 (fun _ _ => scannerBytes_below_ring) hj
    have owner : t.ownedByDevice t.scanner.cursor = s.ownedByDevice s.scanner.cursor := by
      have cursor : t.scanner.cursor = s.scanner.cursor := by rw [frame]
      have first := slip (j := 0) (by decide)
      unfold State.ownedByDevice
      rw [cursor, ← Nat.add_zero (slipAddress s.scanner.cursor), first]
    refine ⟨fun kind owned known => ?_, fun host => ?_⟩
    · rw [show readingLimit = 65 + 1 from rfl, readSlips_taken 65 (owner.trans owned) (by rw [scanner, slip (by decide)]; exact known)]
      have fields : readSlip t.port.mem (slipAddress s.scanner.cursor) kind = readSlip s.port.mem (slipAddress s.scanner.cursor) kind :=
        readSlip_congr (fun i hi => slip hi) kind
      refine ⟨_, rfl, ?_, by simp only [State.withScanner_scanner, scanner, fields], shown9, shownA, kept⟩
      rw [frame]
      rfl
    · rw [show readingLimit = 64 + 2 from rfl, readSlips_host 64 (owner.trans host)]
      obtain ⟨state, cursor⟩ := setScanner_shown (s := t) (v := { t.scanner with state := .idle, nudgePending := false }) wf
        (by rw [frame]; exact live.2) (by simp [scanner])
      refine ⟨_, rfl, ?_, state, by simpa [scanner] using cursor, bytesKept_trans kept (setScanner_kept wf _)⟩
      rw [State.setScanner_frame, scanner, frame]
      simp [idle]

end Sys2Proof.Proofs
end

section
/-! The return of a slip (R148): the bytes it writes, and what is read after it. -/
namespace Sys2Proof.Proofs
open Sys2Proof Sys2Proof.Machine

/-! ### CLEAR and the return fields -/

/-- The bytes CLEAR zeroes at the return of a slip (R148 step 1). -/
def cleared (p : Slip) (r : Result) (b : Nat) : Prop :=
  p.clear = true ∧ within (p.outOffset + r.used) (p.outLength - r.used) b

/-- The bytes of the slip at `a` that its return writes. -/
def returnFields (a b : Nat) : Prop := b = a ∨ b = a + 3 ∨ within (a + 12) 4 b

theorem clearTail_wf {s : State} (form : s.port.mem.wf) (p : Slip) (r : Result) : (s.clearTail p r).port.mem.wf := by
  unfold State.clearTail
  split
  · exact memZero_wf _ _ _ form
  · exact form

theorem byteAt_clearTail {s : State} (form : s.port.mem.wf) {p : Slip} {r : Result} (used : r.used ≤ p.outLength) {b : Nat}
    (inside : b < Config.memorySize) :
    (cleared p r b → r.status ≠ .badReference → (s.clearTail p r).byteAt b = 0)
      ∧ (¬ cleared p r b → (s.clearTail p r).byteAt b = s.byteAt b) := by
  have zeroed : memGet (memZero s.port.mem (p.outOffset + r.used) (p.outOffset + p.outLength)) b
      = if p.outOffset + r.used ≤ b ∧ b < p.outOffset + p.outLength then 0 else s.byteAt b := by
    unfold State.byteAt memGet
    rw [Nat.mod_eq_of_lt inside]
    exact memRead_memZero _ form.1 _ _ _
  unfold State.clearTail cleared within
  refine ⟨fun ⟨clear, low, high⟩ status => ?_, fun out => ?_⟩
  · rw [if_pos ⟨clear, status⟩]
    exact zeroed.trans (if_pos ⟨low, by omega⟩)
  · split
    next acts => exact zeroed.trans (if_neg fun range => out ⟨acts.1, range.1, by omega⟩)
    · rfl

theorem clearTail_kept {s : State} (form : s.port.mem.wf) {p : Slip} {r : Result} (used : r.used ≤ p.outLength) :
    bytesKept s (s.clearTail p r) (cleared p r) := fun _ inside out => (byteAt_clearTail form used inside).2 out

theorem writeReturn_wf {s : State} (form : s.port.mem.wf) (r : Result) : (s.writeReturn r).port.mem.wf := by
  unfold State.writeReturn
  exact State.store_mem_wf _ _ _ (State.store_mem_wf _ _ _ (State.store_mem_wf _ _ _ (State.store_mem_wf _ _ _ form)))

/-- Owner, status, out-length and detail in their places, and no other byte changed (R148 steps 2 and 3). -/
theorem writeReturn_bytes {s : State} (form : s.port.mem.wf) (ring : s.scanner.cursor < 64) (r : Result) :
    let a := slipAddress s.scanner.cursor
    let t := s.writeReturn r
    t.byteAt a = 0 ∧ t.byteAt (a + 3) = BitVec.ofNat 8 r.status.code ∧ memLe t.port.mem 2 (a + 12) = r.used % 65536
      ∧ memLe t.port.mem 2 (a + 14) = r.detail % 65536 ∧ bytesKept s t (returnFields a) := by
  obtain ⟨low, high⟩ := slipAddress_bounds ring
  generalize eq : slipAddress s.scanner.cursor = a at low high
  have fits {n : Nat} (h : n ≤ 16) : a + n ≤ Config.memorySize := by unfold Config.memorySize; omega
  have form₁ := State.store_mem_wf s (a + 14) (leBytes 2 r.detail) form
  have form₂ := State.store_mem_wf _ (a + 12) (leBytes 2 r.used) form₁
  have form₃ := State.store_mem_wf _ (a + 3) (leBytes 1 r.status.code) form₂
  have stores : s.writeReturn r = (((s.store (a + 14) (leBytes 2 r.detail)).store (a + 12) (leBytes 2 r.used)).store (a + 3)
      (leBytes 1 r.status.code)).store a [0] := by rw [← eq]; rfl
  have bytes (i : Nat) (hi : i < 16) : (s.writeReturn r).byteAt (a + i) =
      if i = 0 then 0 else if i = 3 then BitVec.ofNat 8 r.status.code else if 12 ≤ i ∧ i < 14 then (leBytes 2 r.used).getD (i - 12) 0
      else if 14 ≤ i then (leBytes 2 r.detail).getD (i - 14) 0 else s.byteAt (a + i) := by
    have inside : a + i < Config.memorySize := by unfold Config.memorySize; omega
    rw [stores, byteAt_store form₃ (by unfold Config.memorySize; simp; omega) inside,
      byteAt_store form₂ (by unfold Config.memorySize; simp; omega) inside,
      byteAt_store form₁ (by unfold Config.memorySize; simp; omega) inside,
      byteAt_store form (by unfold Config.memorySize; simp; omega) inside]
    simp only [List.length_cons, List.length_nil, leBytes_length, Nat.add_sub_cancel_left]
    rcases Nat.lt_or_ge i 1 with h | h
    · obtain rfl : i = 0 := by omega
      simp
    · rw [if_neg (by omega), if_neg (by omega : ¬ i = 0)]
      by_cases h3 : i = 3
      · subst h3
        simp [leBytes]
      · rw [if_neg (by omega), if_neg h3]
        by_cases h12 : 12 ≤ i ∧ i < 14
        · rw [if_pos (by omega), if_pos h12, Nat.add_sub_add_left]
        · rw [if_neg (by omega), if_neg h12]
          by_cases h14 : 14 ≤ i
          · rw [if_pos (by omega), if_pos h14, Nat.add_sub_add_left]
          · rw [if_neg (by omega), if_neg h14]
  have number {k n : Nat} (hk : k + 2 ≤ 16)
      (h : ∀ i, i < 2 → (s.writeReturn r).byteAt (a + (k + i)) = (leBytes 2 n).getD i 0) :
      memLe (s.writeReturn r).port.mem 2 (a + k) = n % 65536 :=
    memLe_of_leBytes (k := 2) fun i hi => by
      rw [Nat.add_assoc]
      exact h i hi
  refine ⟨bytes 0 (by decide), bytes 3 (by decide), number (by decide) fun i hi => ?_, number (by decide) fun i hi => ?_,
    fun c inside out => ?_⟩
  · rw [bytes _ (by omega), if_neg (by omega), if_neg (by omega), if_pos (by omega), Nat.add_sub_cancel_left]
  · rw [bytes _ (by omega), if_neg (by omega), if_neg (by omega), if_neg (by omega), if_pos (by omega), Nat.add_sub_cancel_left]
  · unfold returnFields within at out
    rw [stores, byteAt_store form₃ (by unfold Config.memorySize; simp; omega) inside,
      byteAt_store form₂ (by unfold Config.memorySize; simp; omega) inside,
      byteAt_store form₁ (by unfold Config.memorySize; simp; omega) inside,
      byteAt_store form (by unfold Config.memorySize; simp; omega) inside]
    simp only [List.length_cons, List.length_nil, leBytes_length]
    rw [if_neg (by omega), if_neg (by omega), if_neg (by omega), if_neg (by omega)]

/-! ### The return whole -/

/-- A return leaves every field but the scanner and the port, CLEAR and the return fields too. -/
theorem writeReturn_clearTail_frame (s : State) (p : Slip) (r : Result) :
    (s.clearTail p r).writeReturn r = { s with port := { s.port with mem := ((s.clearTail p r).writeReturn r).port.mem } } := by
  unfold State.writeReturn State.clearTail
  split <;> rfl

/-- The state of a return before the scanner's cursor advances. -/
def returnWritten (s : State) (p : Slip) (r : Result) : State :=
  let t := (s.clearTail p r).writeReturn r
  if p.notify then t.setNotice .slip else t

theorem giveBack_eq (s : State) (p : Slip) (r : Result) :
    s.giveBack p r = (returnWritten s p r).setScanner { s.scanner with held := none, cursor := s.nextCursor p.ringEnd } := by
  have scanner : (returnWritten s p r).scanner = s.scanner := by
    unfold returnWritten
    dsimp only
    split
    · rw [State.setNotice_frame, writeReturn_clearTail_frame]
    · rw [writeReturn_clearTail_frame]
  rw [← scanner]
  rfl

theorem returnWritten_mem (s : State) (p : Slip) (r : Result) :
    (returnWritten s p r).port.mem = ((s.clearTail p r).writeReturn r).port.mem := by
  unfold returnWritten
  dsimp only
  split
  · exact mem_setNotice _ _
  · rfl

theorem returnWritten_wf {s : State} (form : s.port.mem.wf) (p : Slip) (r : Result) : (returnWritten s p r).port.mem.wf := by
  rw [returnWritten_mem]
  exact writeReturn_wf (clearTail_wf form p r) r

theorem giveBack_wf {s : State} (form : s.port.mem.wf) (p : Slip) (r : Result) : (s.giveBack p r).port.mem.wf := by
  rw [giveBack_eq]
  exact setScanner_wf (returnWritten_wf form p r) _

theorem clearTail_scanner (s : State) (p : Slip) (r : Result) : (s.clearTail p r).scanner = s.scanner := by
  unfold State.clearTail
  split <;> rfl

theorem memLe_slip_kept {s t : State} (kept : bytesKept s t scannerBytes) {i k b : Nat} (ring : i < 64) (hb : b + k ≤ 16) :
    memLe t.port.mem k (slipAddress i + b) = memLe s.port.mem k (slipAddress i + b) := by
  have := slipAddress_bounds ring
  refine memLe_kept kept (by unfold Config.memorySize; omega) fun j _ => ?_
  rw [Nat.add_assoc]
  exact scannerBytes_below_ring

/-- The return fields of a slip given back (R148 steps 2 and 3). -/
theorem giveBack_fields {s : State} (form : s.port.mem.wf) (ring : s.scanner.cursor < 64) (p : Slip) (r : Result) :
    let a := slipAddress s.scanner.cursor
    let t := s.giveBack p r
    t.byteAt a = 0 ∧ t.byteAt (a + 3) = BitVec.ofNat 8 r.status.code ∧ memLe t.port.mem 2 (a + 12) = r.used % 65536
      ∧ memLe t.port.mem 2 (a + 14) = r.detail % 65536 := by
  have written := writeReturn_bytes (clearTail_wf form p r) (by rw [clearTail_scanner]; exact ring) r
  rw [clearTail_scanner] at written
  obtain ⟨owner, status, out, detail, _⟩ := written
  have kept := setScanner_kept (returnWritten_wf form p r) { s.scanner with held := none, cursor := s.nextCursor p.ringEnd }
  rw [← giveBack_eq] at kept
  have slip {j : Nat} (hj : j < 16) : (s.giveBack p r).byteAt (slipAddress s.scanner.cursor + j)
      = ((s.clearTail p r).writeReturn r).byteAt (slipAddress s.scanner.cursor + j) :=
    (slip_kept kept ring (fun _ _ => scannerBytes_below_ring) hj).trans (byteAt_congr (returnWritten_mem s p r) _)
  refine ⟨(slip (j := 0) (by decide)).trans owner, (slip (by decide)).trans status, ?_, ?_⟩
  · rw [memLe_slip_kept kept ring (by decide), returnWritten_mem]
    exact out
  · rw [memLe_slip_kept kept ring (by decide), returnWritten_mem]
    exact detail

/-- A return changes the return fields of its slip, the scanner's published bytes, and what CLEAR zeroes. -/
theorem giveBack_kept {s : State} (form : s.port.mem.wf) (ring : s.scanner.cursor < 64) {p : Slip} {r : Result} (used : r.used ≤ p.outLength) :
    bytesKept s (s.giveBack p r)
      (fun b => returnFields (slipAddress s.scanner.cursor) b ∨ scannerBytes b ∨ cleared p r b) := by
  have written := (writeReturn_bytes (clearTail_wf form p r) (by rw [clearTail_scanner]; exact ring) r).2.2.2.2
  rw [clearTail_scanner] at written
  have kept := setScanner_kept (returnWritten_wf form p r) { s.scanner with held := none, cursor := s.nextCursor p.ringEnd }
  rw [← giveBack_eq] at kept
  refine bytesKept_trans (bytesKept_mono (clearTail_kept form used) fun _ h => .inr (.inr h)) ?_
  refine bytesKept_trans (bytesKept_mono written fun _ h => .inl h) ?_
  exact bytesKept_trans (bytesKept_of_mem (returnWritten_mem s p r) _) (bytesKept_mono kept fun _ h => .inr (.inl h))

/-- A good out-reference lies in the buffers (R144). -/
theorem out_in_buffer {p : Slip} (good : p.referencesGood = true) :
    p.outLength = 0 ∨ (p.outLength ≤ 31488 ∧ 0x500 ≤ p.outOffset ∧ p.outOffset + p.outLength ≤ Config.memorySize) := by
  have reference : referenceGood p.outOffset p.outLength = true := (Bool.and_eq_true_iff.1 good).2
  have := of_decide_eq_true reference
  unfold Config.bufferSize Config.bufferBase at this
  unfold Config.memorySize
  omega

/-- With a good reference CLEAR zeroes bytes of the buffers alone. -/
theorem cleared_in_buffer {p : Slip} {r : Result} (good : p.referencesGood = true) {b : Nat}
    (h : cleared p r b) : 0x500 ≤ b ∧ b < Config.memorySize := by
  have := out_in_buffer good
  obtain ⟨_, low, high⟩ := h
  omega

theorem returnFields_in_slip {a b : Nat} (h : returnFields a b) : a ≤ b ∧ b < a + 16 := by
  unfold returnFields within at h
  omega

/-- What CLEAR zeroes at the return of a slip with good references. -/
theorem giveBack_cleared {s : State} (form : s.port.mem.wf) (ring : s.scanner.cursor < 64) {p : Slip} {r : Result}
    (good : p.referencesGood = true) (used : r.used ≤ p.outLength) (status : r.status ≠ .badReference) {b : Nat}
    (h : cleared p r b) : (s.giveBack p r).byteAt b = 0 := by
  obtain ⟨low, inside⟩ := cleared_in_buffer good h
  have high := slipAddress_bounds ring
  have written := (writeReturn_bytes (clearTail_wf form p r) (by rw [clearTail_scanner]; exact ring) r).2.2.2.2
  rw [clearTail_scanner] at written
  have kept := setScanner_kept (returnWritten_wf form p r) { s.scanner with held := none, cursor := s.nextCursor p.ringEnd }
  rw [← giveBack_eq] at kept
  calc (s.giveBack p r).byteAt b
      = (returnWritten s p r).byteAt b := kept b inside (by unfold scannerBytes; omega)
    _ = ((s.clearTail p r).writeReturn r).byteAt b := byteAt_congr (returnWritten_mem s p r) b
    _ = (s.clearTail p r).byteAt b := written b inside fun h => by have := returnFields_in_slip h; omega
    _ = 0 := (byteAt_clearTail form used inside).1 h status

theorem giveBack_notice {s : State} (high : s.resetLow = false) (p : Slip) (r : Result) :
    (s.giveBack p r).port.notice = if p.notify = true then s.port.notice ||| 1 else s.port.notice := by
  have frame := writeReturn_clearTail_frame s p r
  rw [giveBack_eq, State.setScanner_frame]
  unfold returnWritten
  dsimp only
  split
  · rw [notice_setNotice (by rw [frame]; exact high), frame]
    rfl
  · rw [frame]

/-- Settles O23. -/
theorem returnWritesTheSlip : Obligations.ReturnWritesTheSlip := by
  intro s p r live form ring good used status
  obtain ⟨owner, code, out, detail⟩ := giveBack_fields form ring.2 p r
  have kept := giveBack_kept (p := p) form ring.2 used
  have bounds := slipAddress_bounds ring.2
  have frame := State.giveBack_frame s p r
  refine ⟨?_, ?_, owner, code, out, detail, fun i hi h0 h3 => ?_, fun clear b hb => ?_, bytesKept_mono kept ?_,
    giveBack_notice live.2 p r⟩
  · rw [frame]
  · rw [frame]
  · refine kept _ (by unfold Config.memorySize; omega) ?_
    rintro (h | h | h)
    · unfold returnFields within at h
      omega
    · exact scannerBytes_below_ring h
    · have := cleared_in_buffer good h
      omega
  · exact giveBack_cleared form ring.2 good used status ⟨clear, hb⟩
  · rintro b (h | h | h)
    · exact .inl ⟨(returnFields_in_slip h).1, (returnFields_in_slip h).2⟩
    · exact h.elim (fun e => .inr (.inl e)) (fun e => .inr (.inr (.inl e)))
    · exact .inr (.inr (.inr h))

end Sys2Proof.Proofs
end

section
/-! What follows the return of a slip, bad slips, NOP, and SAVE with its wait for a checkpoint. -/
namespace Sys2Proof.Proofs
open Sys2Proof Sys2Proof.Machine

/-! ### The slip after a return -/

/-- A return leaves every byte of every other slip. -/
theorem giveBack_other_slip {s : State} (form : s.port.mem.wf) (ring : s.ringLegal) {p : Slip} {r : Result}
    (good : p.referencesGood = true) (used : r.used ≤ p.outLength) {i j : Nat} (hi : i < 64) (other : i ≠ s.scanner.cursor)
    (hj : j < 16) : (s.giveBack p r).byteAt (slipAddress i + j) = s.byteAt (slipAddress i + j) := by
  refine slip_kept (giveBack_kept form ring.2 used) hi (fun j hj => ?_) hj
  have bounds := slipAddress_bounds hi
  have apart := slipAddress_apart other
  rintro (h | h | h)
  · have := returnFields_in_slip h
    omega
  · exact scannerBytes_below_ring h
  · have := cleared_in_buffer good h
    omega

/-- After a return the slip returned reads as the host's. -/
theorem giveBack_host {s : State} (form : s.port.mem.wf) (ring : s.ringLegal) {p : Slip} {r : Result}
    (good : p.referencesGood = true) (used : r.used ≤ p.outLength) {i : Nat} (hi : i < 64)
    (host : i = s.scanner.cursor ∨ s.ownedByDevice i = false) : (s.giveBack p r).ownedByDevice i = false := by
  have owner := (giveBack_fields form ring.2 p r).1
  by_cases same : i = s.scanner.cursor
  · subst same
    unfold State.ownedByDevice
    rw [owner]
    rfl
  · have kept := giveBack_other_slip (r := r) form ring good used hi same (j := 0) (by decide)
    have := host.resolve_left same
    unfold State.ownedByDevice at this ⊢
    rw [Nat.add_zero] at kept
    rw [kept]
    exact this

theorem giveBack_scanner (s : State) (p : Slip) (r : Result) :
    (s.giveBack p r).scanner = { s.scanner with held := none, cursor := s.nextCursor p.ringEnd } := by
  rw [State.giveBack_frame]

theorem giveBack_resetLow (s : State) (p : Slip) (r : Result) : (s.giveBack p r).resetLow = s.resetLow := by
  rw [State.giveBack_frame]

/-- With nothing handed over next the scanner goes IDLE after a return. -/
theorem returnSlip_idle {s : State} (form : s.port.mem.wf) (ring : s.ringLegal) {p : Slip} {r : Result}
    (good : p.referencesGood = true) (used : r.used ≤ p.outLength)
    (host : s.nextCursor p.ringEnd = s.scanner.cursor ∨ s.ownedByDevice (s.nextCursor p.ringEnd) = false) (n : Nat) :
    readSlips (n + 2) (s.giveBack p r) =
      (s.giveBack p r).setScanner { (s.giveBack p r).scanner with state := .idle, nudgePending := false } := by
  refine readSlips_host n ?_
  rw [giveBack_scanner]
  exact giveBack_host form ring good used (nextCursor_lt p.ringEnd ring) host

/-- Settles O24: the reading after the return finds the next slip as it stood before it. -/
theorem returnReadsTheNextSlip : Obligations.ReturnReadsTheNextSlip := by
  intro s p r live form ring good used scanning
  refine ⟨fun host => ?_, fun kind other owned known => ?_⟩
  · unfold State.returnSlip
    rw [show readingLimit = 64 + 2 from rfl, returnSlip_idle form ring good used host 64, setScanner_scanner, giveBack_scanner]
  · have next := nextCursor_lt p.ringEnd ring
    have slip {j : Nat} (hj : j < 16) := giveBack_other_slip (r := r) form ring good used next other hj
    have cursor : (s.giveBack p r).scanner.cursor = s.nextCursor p.ringEnd := by rw [giveBack_scanner]
    have owned_ : (s.giveBack p r).ownedByDevice (s.giveBack p r).scanner.cursor = true := by
      unfold State.ownedByDevice at owned ⊢
      rw [cursor, ← Nat.add_zero (slipAddress _), slip (by decide)]
      exact owned
    have known_ : kindOfCode ((s.giveBack p r).byteAt (slipAddress (s.giveBack p r).scanner.cursor + 1)).toNat = some kind := by
      rw [cursor, slip (by decide)]
      exact known
    unfold State.returnSlip
    rw [show readingLimit = 65 + 1 from rfl, readSlips_taken 65 owned_ known_, State.withScanner_scanner, cursor,
      readSlip_congr (fun i hi => slip hi) kind, giveBack_scanner]

/-! ### The command of a kind -/

/-- A held slip with good references is its block's work, and the scanner acts on the answer (R148). -/
theorem carryOut_good {s : State} {kind : SlipKind} {p : Slip} (held : s.dispatched kind = some p) (good : p.referencesGood = true)
    (work : Slip → State → Verdict × State) : s.carryOut kind work = (work p s).2.conclude p (work p s).1 := by
  simp only [State.carryOut, held, good, if_true]

/-- One with a bad reference is returned, and its block does nothing (R144). -/
theorem carryOut_bad {s : State} {kind : SlipKind} {p : Slip} (held : s.dispatched kind = some p) (bad : p.referencesGood = false)
    (work : Slip → State → Verdict × State) : s.carryOut kind work = s.returnSlip p ⟨.badReference, 0, 0⟩ := by
  simp only [State.carryOut, held, bad, Bool.false_eq_true, if_false]
  rfl

theorem dispatched_scanner {s : State} {kind : SlipKind} {p : Slip} (held : s.dispatched kind = some p) :
    s.scanner.state = .scanning ∧ p.kind = kind ∧ ∃ h, s.scanner.held = some h ∧ h.slip = p := by
  unfold State.dispatched at held
  split at held
  next h scanning holds =>
    split at held
    next same =>
      obtain rfl := Option.some.inj held
      exact ⟨scanning, same, h, holds, rfl⟩
    · cases held
  · cases held

theorem referenceGood_false (offset length : Nat) : referenceGood offset length = false ↔
    1 ≤ length ∧ (31488 < length ∨ offset < 0x0500 ∨ 0x7FFF < offset + length - 1) := by
  unfold referenceGood Config.bufferSize Config.bufferBase
  rw [decide_eq_false_iff_not]
  omega

/-- A command of a kind at a slip with a bad reference. -/
theorem exec_bad {s : State} {kind : SlipKind} {p : Slip} (on : s.powered = true) (held : s.dispatched kind = some p)
    (bad : p.referencesGood = false) : exec (commandOf kind) s = .next (s.returnSlip p ⟨.badReference, 0, 0⟩) := by
  have acts (work : Slip → State → Verdict × State) :
      s.act (fun s => s.carryOut kind work) = .next (s.returnSlip p ⟨.badReference, 0, 0⟩) := by
    rw [act_on on, carryOut_bad held bad]
  cases kind <;> exact acts _

/-- Settles O25: a slip of no kind is returned by the reading that finds it. -/
theorem badSlipsAreReturned : Obligations.BadSlipsAreReturned := by
  refine ⟨referenceGood_false, fun kind s p on held bad => exec_bad on held bad, ?_⟩
  intro s live form ring idle noNudge a p owned unknown good host
  obtain ⟨_, _, kept⟩ := scanning_shown live form idle
  have frame := s.setScanner_frame { s.scanner with state := .scanning }
  have wf := setScanner_wf form { s.scanner with state := .scanning }
  rw [exec_nudge live, takeNudge_idle idle]
  generalize s.setScanner { s.scanner with state := .scanning } = t at kept frame wf ⊢
  have scanner : t.scanner = { s.scanner with state := .scanning } := by rw [frame]
  have cursor : t.scanner.cursor = s.scanner.cursor := by rw [frame]
  have slip {i j : Nat} (hi : i < 64) (hj : j < 16) : t.byteAt (slipAddress i + j) = s.byteAt (slipAddress i + j) :=
    slip_kept kept hi (fun _ _ => scannerBytes_below_ring) hj
  have owner {i : Nat} (hi : i < 64) : t.ownedByDevice i = s.ownedByDevice i := by
    have first := slip (j := 0) hi (by decide)
    unfold State.ownedByDevice
    rw [Nat.add_zero] at first
    rw [first]
  have ring_ : t.ringLegal := by rw [frame]; exact ring
  have next : t.nextCursor = s.nextCursor := by rw [frame]; rfl
  have read : readSlip t.port.mem (slipAddress t.scanner.cursor) .nop = readSlip s.port.mem (slipAddress s.scanner.cursor) .nop := by
    rw [cursor]
    exact readSlip_congr (fun i hi => slip ring.2 hi) .nop
  have used : (refusal .badKind).used ≤ (readSlip s.port.mem (slipAddress s.scanner.cursor) .nop).outLength := Nat.zero_le _
  rw [show readingLimit = 63 + 2 + 1 from rfl,
    readSlips_unknown _ (by rw [cursor, owner ring.2]; exact owned) (by rw [cursor, slip ring.2 (by decide)]; exact unknown)
      (by rw [read]; exact good), read,
    returnSlip_idle wf ring_ good used (by rw [next, cursor, owner (nextCursor_lt _ ring)]; exact host)]
  obtain ⟨returned, code, out, detail⟩ := giveBack_fields wf ring_.2 (readSlip s.port.mem (slipAddress s.scanner.cursor) .nop)
    (refusal .badKind)
  have form_ := giveBack_wf wf (readSlip s.port.mem (slipAddress s.scanner.cursor) .nop) (refusal .badKind)
  have shown := setScanner_kept form_
    { (t.giveBack (readSlip s.port.mem (slipAddress s.scanner.cursor) .nop) (refusal .badKind)).scanner with
      state := .idle, nudgePending := false }
  rw [cursor] at returned code out detail
  have kept_ {j : Nat} (hj : j < 16) := slip_kept shown ring.2 (fun _ _ => scannerBytes_below_ring) hj
  refine ⟨_, rfl, ?_, (kept_ (j := 0) (by decide)).trans returned, (kept_ (by decide)).trans code, ?_, ?_⟩
  · rw [setScanner_scanner, giveBack_scanner, next, scanner]
    simp only [idle, noNudge]
  · rw [memLe_slip_kept shown ring.2 (by decide)]
    exact out
  · rw [memLe_slip_kept shown ring.2 (by decide)]
    exact detail

/-! ### The wait for a checkpoint -/

/-- A slip accepted with the journal free: the checkpoint that holds the state as it stands has started, and the slip is attached
(R150, R170). -/
theorem waitSave_free {s : State} (high : s.resetLow = false) (form : s.port.mem.wf) (free : s.journalFree)
    (moved : s.scanner.state ≠ .waitSave) (h : Held) :
    s.waitSave h = { s with
        scanner := { s.scanner with state := .waitSave, held := some h }, journal := (s.waitSave h).journal
        port := { s.port with mem := (s.waitSave h).port.mem } }
      ∧ (s.waitSave h).journal.startedFrom s ∧ (s.waitSave h).journal.waiting = some true
      ∧ (s.waitSave h).byteAt 0x09 = 2 ∧ bytesKept s (s.waitSave h) scannerBytes := by
  unfold State.waitSave
  dsimp only
  have shown := (setScanner_shown (v := { s.scanner with state := .waitSave, held := some h }) form high (by exact Ne.symm moved)).1
  have kept := setScanner_kept form { s.scanner with state := .waitSave, held := some h }
  have frame := s.setScanner_frame { s.scanner with state := .waitSave, held := some h }
  generalize s.setScanner { s.scanner with state := .waitSave, held := some h } = t at shown kept frame ⊢
  obtain ⟨same, started, waits⟩ := (t.withJournal { t.journal with waiting := some false }).trigger_free (by rw [frame]; exact free)
  have memory : (t.withJournal { t.journal with waiting := some false }).trigger.port.mem = t.port.mem := by rw [same]; rfl
  refine ⟨?_, ?_, by rw [waits]; rfl, (byteAt_congr memory _).trans shown, bytesKept_trans kept (bytesKept_of_mem memory _)⟩
  · rw [same, frame]
    rfl
  · rw [frame] at started ⊢
    exact started

/-- A slip accepted while a page is written, or in HOLD, waits unattached with another checkpoint pending (R150, R169). -/
theorem waitSave_busy {s : State} (busy : s.journal.writing ≠ none ∨ s.supply.power = .hold) (h : Held) :
    s.waitSave h = { s with
        scanner := { s.scanner with state := .waitSave, held := some h }
        journal := { s.journal with another := true, waiting := some false }
        port := { s.port with mem := (s.waitSave h).port.mem } }
      ∧ (s.waitSave h).port.mem = (s.setScanner { s.scanner with state := .waitSave, held := some h }).port.mem := by
  have frame := s.setScanner_frame { s.scanner with state := .waitSave, held := some h }
  unfold State.waitSave
  dsimp only
  rw [State.trigger_busy _ (by rw [frame]; exact busy)]
  refine ⟨?_, rfl⟩
  rw [frame]
  rfl

theorem exec_save {s : State} {p : Slip} (holds : s.holdsSlip .save p) : exec .save s = .next (s.waitSave ⟨p, 0, 0⟩) := by
  obtain ⟨on, held, good⟩ := holds
  unfold exec execSave
  rw [act_on on, carryOut_good held good]
  rfl

theorem holdsSlip_moved {s : State} {kind : SlipKind} {p : Slip} (holds : s.holdsSlip kind p) : s.scanner.state ≠ .waitSave := by
  rw [(dispatched_scanner holds.2.1).1]
  exact nofun

/-- Settles O26: SAVE waits as every accepted slip does. -/
theorem nopReturnsAndSaveWaits : Obligations.NopReturnsAndSaveWaits := by
  refine ⟨fun s p holds => ?_, fun s p holds high form free => ?_, fun s p holds busy => ?_⟩
  · unfold exec execNop
    rw [act_on holds.1, carryOut_good holds.2.1 holds.2.2]
    rfl
  · obtain ⟨frame, started, waits, shown, kept⟩ := waitSave_free high form free (holdsSlip_moved holds) ⟨p, 0, 0⟩
    have scanner : (s.waitSave ⟨p, 0, 0⟩).scanner = { s.scanner with state := .waitSave, held := some ⟨p, 0, 0⟩ } := by rw [frame]
    refine ⟨_, exec_save holds, ?_, scanner, started, waits, shown, kept⟩
    rw [scanner]
    exact frame
  · obtain ⟨frame, memory⟩ := waitSave_busy busy ⟨p, 0, 0⟩
    refine ⟨_, exec_save holds, frame, fun high form => ⟨?_, ?_⟩⟩
    · rw [byteAt_congr memory]
      exact (setScanner_shown form high (Ne.symm (holdsSlip_moved holds))).1
    · exact bytesKept_trans (setScanner_kept form _) (bytesKept_of_mem memory _)

end Sys2Proof.Proofs
end

section
/-! Frame intake: ROUTE and its checks, FEED, and how a candidate ends. -/
namespace Sys2Proof.Proofs
open Sys2Proof Sys2Proof.Machine

/-! ### The entries of a ROUTE -/

/-- The first entry that reads as none ends the reading with its index (R58 check 4). -/
theorem readRouteEntries_error {m : Memory} {n i index a : Nat} (among : i < n) (bad : readRouteEntry m (a + 16 * i) = none)
    (before : ∀ j, j < i → readRouteEntry m (a + 16 * j) ≠ none) : readRouteEntries m n index a = .error (index + i) := by
  induction n generalizing i index a with
  | zero => omega
  | succ n ih =>
    unfold readRouteEntries
    cases i with
    | zero =>
      rw [Nat.mul_zero, Nat.add_zero] at bad
      rw [bad]
      rfl
    | succ i =>
      have shift (j : Nat) : a + 16 + 16 * j = a + 16 * (j + 1) := by omega
      have rest := ih (i := i) (index := index + 1) (a := a + 16) (by omega) (by rw [shift]; exact bad)
        (fun j hj => by rw [shift]; exact before (j + 1) (by omega))
      cases good : readRouteEntry m a with
      | none => exact absurd good (by simpa using before 0 (by omega))
      | some e =>
        simp only [rest]
        rw [show index + 1 + i = index + (i + 1) by omega]

/-- With no bad entry they are read in their order. -/
theorem readRouteEntries_ok {m : Memory} {entries : List RouteEntry} {index a : Nat}
    (good : ∀ i (h : i < entries.length), readRouteEntry m (a + 16 * i) = some entries[i]) :
    readRouteEntries m entries.length index a = .ok entries := by
  induction entries generalizing index a with
  | nil => rfl
  | cons e rest ih =>
    have first : readRouteEntry m a = some e := good 0 (Nat.succ_pos _)
    have later := ih (index := index + 1) (a := a + 16) fun i h => by
      have := good (i + 1) (by simpa using h)
      rwa [show a + 16 * (i + 1) = a + 16 + 16 * i by omega] at this
    simp only [List.length_cons, readRouteEntries, first, later]

theorem clash_iff (e f : RouteEntry) : e.clash f = true ↔ e.tag = f.tag ∧ e.target = f.target := by
  simp [RouteEntry.clash]

/-- Distinct entries clash nowhere (R58 check 5). -/
theorem firstClash_none {l : List RouteEntry} {earlier : List RouteEntry} {k : Nat} (h : routesDistinct (earlier ++ l)) :
    firstClash earlier l k = none := by
  induction l generalizing earlier k with
  | nil => rfl
  | cons e rest ih =>
    have clear : ¬ earlier.any e.clash = true := by
      rw [List.any_eq_true]
      rintro ⟨f, hf, clash⟩
      obtain ⟨tag, target⟩ := (clash_iff e f).1 clash
      exact (List.pairwise_append.1 h).2.2 f hf e (.head _) ⟨tag.symm, target.symm⟩
    unfold firstClash
    rw [if_neg clear]
    exact ih (by simpa using h)

/-- The first entry that clashes with an earlier one is found at its index (R58 check 5). -/
theorem firstClash_some {l : List RouteEntry} {earlier : List RouteEntry} {k i : Nat} (hi : i < l.length)
    (before : routesDistinct (earlier ++ l.take i)) (clash : ∃ f ∈ earlier ++ l.take i, l[i].clash f = true) :
    firstClash earlier l k = some (k + i) := by
  induction l generalizing earlier k i with
  | nil => simp at hi
  | cons e rest ih =>
    unfold firstClash
    cases i with
    | zero => rw [if_pos (by simpa using clash)]; rfl
    | succ i =>
      have clear : ¬ earlier.any e.clash = true := by
        rw [List.any_eq_true]
        rintro ⟨f, hf, clash⟩
        obtain ⟨tag, target⟩ := (clash_iff e f).1 clash
        exact (List.pairwise_append.1 before).2.2 f hf e (by simp) ⟨tag.symm, target.symm⟩
      rw [if_neg clear, ih (earlier := earlier ++ [e]) (k := k + 1) (i := i) (by simpa using hi) (by simpa using before)
        (by simpa using clash), show k + 1 + i = k + (i + 1) by omega]

theorem targetOfCode_eq_none (n : Nat) : targetOfCode n = none ↔ n = 1 ∨ n = 3 ∨ 7 < n := by
  unfold targetOfCode
  split <;> simp_all
  omega

/-- Check 4 of R58 refuses an entry for one of its six faults and for no other. -/
theorem readRouteEntry_eq_none (m : Memory) (a : Nat) : readRouteEntry m a = none ↔
    targetOfCode (memGet m (a + 4)).toNat = none ∨ 63 < (memGet m (a + 5)).toNat ∨ (memGet m (a + 6)).toNat = 0
      ∨ 16 < (memGet m (a + 6)).toNat ∨ 64 < (memGet m (a + 5)).toNat + (memGet m (a + 6)).toNat ∨ memLe m 2 (a + 8) = 0
      ∨ memLe m 2 (a + 10) = 0 := by
  unfold readRouteEntry
  cases target : targetOfCode (memGet m (a + 4)).toNat with
  | none => simp
  | some target => simp only [reduceCtorEq, false_or, gt_iff_lt, ite_eq_left_iff, imp_false, not_not]

/-! ### ROUTE -/

theorem exec_route {s : State} {p : Slip} (holds : s.holdsSlip .route p) :
    exec .route s = .next ((routeWork p s).2.conclude p (routeWork p s).1) := by
  unfold exec execRoute
  rw [act_on holds.1, carryOut_good holds.2.1 holds.2.2]

theorem exec_route_refused {s : State} {p : Slip} {r : Result} (holds : s.holdsSlip .route p)
    (refused : checkRoute s.port.mem p = .error r) : exec .route s = .next (s.returnSlip p r) := by
  rw [exec_route holds]
  simp only [routeWork, refused]
  rfl

theorem exec_route_accepted {s : State} {p : Slip} {entries : List RouteEntry} (holds : s.holdsSlip .route p)
    (high : s.resetLow = false) (accepted : checkRoute s.port.mem p = .ok entries) :
    exec .route s = .next (State.returnSlip
      { s with
        intake := { s.intake with routes := entries.map (fun e => ⟨e, none⟩) }
        port := { s.port with notice := s.port.notice ||| 0x800 } }
      p ⟨.done, entries.length, 0⟩) := by
  rw [exec_route holds]
  simp only [routeWork, accepted, State.loadRoutes]
  rw [State.setNotice_live _ _ (by exact high)]
  rfl

/-- A bad entry refuses the ROUTE with its index, once the length fits the count. -/
theorem checkRoute_bad_entry {m : Memory} {p : Slip} {i : Nat} (length : p.inLength = 4 + 16 * memLe m 2 p.inOffset)
    (few : memLe m 2 p.inOffset ≤ 16) (bad : readRouteEntries m (memLe m 2 p.inOffset) 0 (p.inOffset + 4) = .error i) :
    checkRoute m p = .error ⟨.badRoute, i, 0⟩ := by
  unfold checkRoute Config.routeLimit
  dsimp only
  rw [if_neg (by omega), if_neg (by omega), if_neg (by omega), bad]

/-- Good entries are accepted but for a clash among them. -/
theorem checkRoute_good_entries {m : Memory} {p : Slip} {entries : List RouteEntry}
    (length : p.inLength = 4 + 16 * memLe m 2 p.inOffset) (few : memLe m 2 p.inOffset ≤ 16)
    (good : readRouteEntries m (memLe m 2 p.inOffset) 0 (p.inOffset + 4) = .ok entries) :
    (firstClash [] entries 0 = none → checkRoute m p = .ok entries)
      ∧ ∀ i, firstClash [] entries 0 = some i → checkRoute m p = .error ⟨.badRoute, i, 0⟩ := by
  unfold checkRoute Config.routeLimit
  dsimp only
  rw [if_neg (by omega), if_neg (by omega), if_neg (by omega), good]
  exact ⟨fun clear => by simp only [clear], fun i clash => by simp only [clash]⟩

theorem routeChecks (s : State) (p : Slip) (holds : s.holdsSlip .route p) :
    let count := memLe s.port.mem 2 p.inOffset
    (p.inLength < 4 → exec .route s = .next (s.returnSlip p ⟨.badLength, 0, 0⟩))
      ∧ (4 ≤ p.inLength → 16 < count → exec .route s = .next (s.returnSlip p ⟨.badRoute, count, 0⟩))
      ∧ (4 ≤ p.inLength → count ≤ 16 → p.inLength ≠ 4 + 16 * count →
        exec .route s = .next (s.returnSlip p ⟨.badLength, 0, 0⟩))
      ∧ (p.inLength = 4 + 16 * count → count ≤ 16 →
        ∀ (i : Nat), i < count → readRouteEntry s.port.mem (p.inOffset + 4 + 16 * i) = none →
          (∀ j, j < i → readRouteEntry s.port.mem (p.inOffset + 4 + 16 * j) ≠ none) →
          exec .route s = .next (s.returnSlip p ⟨.badRoute, i, 0⟩)) := by
  refine ⟨fun short => ?_, fun long many => ?_, fun long few other => ?_, fun length few i among bad before => ?_⟩ <;>
    refine exec_route_refused holds ?_
  · unfold checkRoute
    rw [if_pos short]
    rfl
  · unfold checkRoute
    rw [if_neg (by omega), if_pos (by exact many)]
  · unfold checkRoute
    rw [if_neg (by omega), if_neg (by exact Nat.not_lt.2 few), if_pos other]
    rfl
  · have := readRouteEntries_error (index := 0) among bad before
    rw [Nat.zero_add] at this
    exact checkRoute_bad_entry length few this

/-- The code of a target, as the statement writes it. -/
theorem readRouteEntry_layout {m : Memory} {a : Nat} {e : RouteEntry} (h : readRouteEntry m a = some e) :
    targetOfCode (memGet m (a + 4)).toNat = some e.target ∧ e.tag = BitVec.ofNat 29 (memLe m 4 a)
      ∧ e.startBit = (memGet m (a + 5)).toNat ∧ e.width = (memGet m (a + 6)).toNat
      ∧ e.signed = decide (memGet m (a + 7) ≠ 0) ∧ e.multiplier = memLe m 2 (a + 8) ∧ e.divisor = memLe m 2 (a + 10)
      ∧ e.offset = signed16 (memLe m 2 (a + 12)) := by
  unfold readRouteEntry at h
  split at h
  · cases h
  next target found =>
    dsimp only at h
    split at h
    · cases h
    · obtain rfl := Option.some.inj h
      exact ⟨found, rfl, rfl, rfl, rfl, rfl, rfl, rfl⟩

/-- Settles O27. -/
theorem routeIsCheckedAndLoaded : Obligations.RouteIsCheckedAndLoaded := by
  refine ⟨routeChecks, fun s p entries holds high count few length good => ?_, fun m a => ?_⟩
  · obtain ⟨accepted, refused⟩ := checkRoute_good_entries (m := s.port.mem) (p := p) (entries := entries)
      (by rw [count]; exact length) (by rw [count]; exact few) (by rw [count]; exact readRouteEntries_ok good)
    refine ⟨fun distinct => exec_route_accepted holds high (accepted (firstClash_none (by exact distinct))),
      fun i hi before clash => exec_route_refused holds (refused i ?_)⟩
    obtain ⟨j, hj, tag, target⟩ := clash
    have found : firstClash [] entries 0 = some (0 + i) := firstClash_some hi before
      ⟨entries[j], List.mem_take_iff_getElem.2 ⟨j, by omega, rfl⟩, (clash_iff _ _).2 ⟨tag.symm, target.symm⟩⟩
    rwa [Nat.zero_add] at found
  · refine ⟨?_, fun e h => ?_⟩
    · rw [readRouteEntry_eq_none, targetOfCode_eq_none]
      simp only [or_assoc]
    · obtain ⟨target, tag, startBit, width, signed, multiplier, divisor, offset⟩ := readRouteEntry_layout h
      refine ⟨⟨by rw [tag, BitVec.toNat_ofNat], ?_, startBit, width⟩, ?_, multiplier, divisor, ?_⟩
      · dsimp only
        generalize e.target = code at target ⊢
        unfold targetOfCode at target
        split at target <;> cases target <;> simp_all
      · rw [signed, decide_eq_true_iff, ne_eq, ne_eq, ← BitVec.toNat_inj]
        rfl
      · exact offset

/-! ### FEED -/

/-- Settles O28. -/
theorem feedIsCheckedOnce : Obligations.FeedIsCheckedOnce := by
  intro s p holds idle
  have work : exec .feed s = .next ((feedWork p s).2.conclude p (feedWork p s).1) := by
    unfold exec execFeed
    rw [act_on holds.1, carryOut_good holds.2.1 holds.2.2]
  rw [work]
  unfold feedWork
  rw [idle]
  refine ⟨fun odd => ?_, fun empty => ?_, fun even some_ => ?_, ?_⟩
  · simp only [Option.isSome_none, Bool.false_eq_true, if_false, if_pos odd]
    rfl
  · simp only [Option.isSome_none, Bool.false_eq_true, if_false, empty]
    rfl
  · simp only [Option.isSome_none, Bool.false_eq_true, if_false, even, some_, ne_eq, not_true_eq_false]
    rfl
  · have := of_decide_eq_true (Bool.and_eq_true_iff.1 holds.2.2).1
    unfold Config.bufferSize at this
    omega

end Sys2Proof.Proofs
end

section
/-!
What the start monitor, the duty meter, the board and the journal's triggers leave alone: every function of theirs that runs within one
command moves nothing but their own fields, the slots, samples and register, depot control, the supply monitor, the journal, NOTICE and
exchange memory, whose canonical form it keeps.
-/
namespace Sys2Proof.Proofs
open Sys2Proof Sys2Proof.Machine

/-- The scanner, the intake, the lines, the channels, the sensor supply and the tuning stand, and of the port all but memory and
NOTICE. -/
structure Beside (s t : State) : Prop where
  pending : t.pending = s.pending
  powered : t.powered = s.powered
  resetLow : t.resetLow = s.resetLow
  scanner : t.scanner = s.scanner
  intake : t.intake = s.intake
  lines : t.lines = s.lines
  pulse : t.pulse = s.pulse
  sensor : t.sensor = s.sensor
  tune : t.tune = s.tune
  port : t.port = { s.port with mem := t.port.mem, notice := t.port.notice }
  form : s.port.mem.wf → t.port.mem.wf

theorem Beside.refl (s : State) : Beside s s := ⟨rfl, rfl, rfl, rfl, rfl, rfl, rfl, rfl, rfl, rfl, id⟩

section
variable {s₀ s : State}

/-- A state that differs from one beside in none of the fields named is beside too. -/
theorem Beside.same (h : Beside s₀ s) {t : State} (e : t = { s with
    board := t.board, monitor := t.monitor, duty := t.duty, slots := t.slots, samples := t.samples, hires := t.hires
    depot := t.depot, supply := t.supply, journal := t.journal, draws := t.draws }) : Beside s₀ t := by
  rw [e]
  exact ⟨h.pending, h.powered, h.resetLow, h.scanner, h.intake, h.lines, h.pulse, h.sensor, h.tune, h.port, h.form⟩

theorem Beside.withBoard (h : Beside s₀ s) (v : Board) : Beside s₀ (s.withBoard v) := h.same rfl

theorem Beside.withMonitor (h : Beside s₀ s) (v : Monitor) : Beside s₀ (s.withMonitor v) := h.same rfl

theorem Beside.withDuty (h : Beside s₀ s) (v : Duty) : Beside s₀ (s.withDuty v) := h.same rfl

theorem Beside.withSupply (h : Beside s₀ s) (v : Supply) : Beside s₀ (s.withSupply v) := h.same rfl

theorem Beside.withDepot (h : Beside s₀ s) (v : Depot) : Beside s₀ (s.withDepot v) := h.same rfl

theorem Beside.withJournal (h : Beside s₀ s) (v : Journal) : Beside s₀ (s.withJournal v) := h.same rfl

theorem Beside.draw (h : Beside s₀ s) : Beside s₀ s.draw.2 := h.same rfl

theorem Beside.cycleHandOn (h : Beside s₀ s) : Beside s₀ s.cycleHandOn :=
  h.same (by rw [State.cycleHandOn_frame])

theorem Beside.land (h : Beside s₀ s) (inc : Increment) : Beside s₀ (s.land inc) := h.same (by rw [State.land_frame])

theorem Beside.setNotice (h : Beside s₀ s) (n : Notice) : Beside s₀ (s.setNotice n) := by
  rw [State.setNotice_frame]
  exact ⟨h.pending, h.powered, h.resetLow, h.scanner, h.intake, h.lines, h.pulse, h.sensor, h.tune, by rw [h.port], h.form⟩

theorem Beside.publish (h : Beside s₀ s) (a : Nat) (bytes : List Byte) : Beside s₀ (s.publish a bytes) := by
  have form := fun f => s.publish_wf a bytes (h.form f)
  rw [State.publish_frame] at form ⊢
  exact ⟨h.pending, h.powered, h.resetLow, h.scanner, h.intake, h.lines, h.pulse, h.sensor, h.tune, by rw [h.port], form⟩

theorem Beside.trigger (h : Beside s₀ s) : Beside s₀ s.trigger := by
  rw [State.trigger_frame]
  exact ⟨h.pending, h.powered, h.resetLow, h.scanner, h.intake, h.lines, h.pulse, h.sensor, h.tune, by rw [h.port], h.form⟩

theorem Beside.depotAutoLeave (h : Beside s₀ s) : Beside s₀ s.depotAutoLeave := by
  unfold State.depotAutoLeave
  split
  · exact (((h.withDepot { s.depot with state := .normal, timer := .stopped }).publish _ _).setNotice _).trigger
  · exact h

theorem Beside.warn (h : Beside s₀ s) : Beside s₀ s.warn :=
  ((h.withSupply { s.supply with filter := .stopped, armed := false }).setNotice _).trigger

theorem Beside.filterAfterCrank (h : Beside s₀ s) : Beside s₀ s.filterAfterCrank := by
  unfold State.filterAfterCrank
  split
  · split
    · exact h.warn
    · split
      · dsimp only
        split
        · exact h.draw.warn
        · exact h.draw
      · exact h
  · exact h

theorem Beside.closeWindow (h : Beside s₀ s) : Beside s₀ s.closeWindow := by
  unfold State.closeWindow
  split
  · dsimp only
    split
    · exact ((h.withDuty _).land .hotSlip).setNotice _
    · exact h.withDuty _
  · exact h

theorem Beside.dutyLeavesRunning (h : Beside s₀ s) : Beside s₀ s.dutyLeavesRunning := h.closeWindow.withDuty _

theorem Beside.countStart (h : Beside s₀ s) : Beside s₀ s.countStart := h.land _

theorem Beside.leaveStart (h : Beside s₀ s) : Beside s₀ s.leaveStart := by
  unfold State.leaveStart
  split
  · exact h.withSupply { s.supply with doze := .stopped }
  · exact h
  · exact (h.withMonitor _).filterAfterCrank
  · exact h.withMonitor _
  · exact (h.withMonitor _).dutyLeavesRunning

theorem Beside.setStart (h : Beside s₀ s) (st : StartState) : Beside s₀ (s.setStart st) := (h.withMonitor _).publish _ _

theorem Beside.offEntered (h : Beside s₀ s) : Beside s₀ s.offEntered := by
  unfold State.offEntered
  dsimp only
  split
  · exact (h.withSupply { s.supply with doze := .running 30000 }).trigger
  · exact h.trigger

theorem Beside.moveStart (h : Beside s₀ s) (st : StartState) : Beside s₀ (s.moveStart st) := by
  unfold State.moveStart
  dsimp only
  split
  · exact (h.leaveStart.setStart st).offEntered
  · exact h.leaveStart.setStart st

theorem Beside.confirmStop (h : Beside s₀ s) : Beside s₀ s.confirmStop := (h.withMonitor _).moveStart _

theorem Beside.reactRunning (h : Beside s₀ s) : Beside s₀ s.reactRunning := by
  unfold State.reactRunning
  split
  · split
    · exact h.withMonitor _
    · exact h.confirmStop
  · split
    · split
      · exact h
      · exact h.withMonitor _
    · exact h.withMonitor _

theorem Beside.enterRunning (h : Beside s₀ s) : Beside s₀ s.enterRunning := (h.moveStart _).reactRunning

theorem Beside.reactIdle (h : Beside s₀ s) : Beside s₀ s.reactIdle := by
  unfold State.reactIdle
  split
  · dsimp only
    split
    · exact (h.moveStart _).depotAutoLeave.reactRunning
    · exact ((h.land (.start .unobserved)).moveStart _).depotAutoLeave.reactRunning
  · exact h

theorem Beside.enterIdle (h : Beside s₀ s) (st : StartState) : Beside s₀ (s.enterIdle st) := (h.moveStart st).reactIdle

theorem Beside.startRunning (h : Beside s₀ s) : Beside s₀ s.startRunning := h.countStart.enterRunning

theorem Beside.enterCatching (h : Beside s₀ s) : Beside s₀ s.enterCatching := by
  unfold State.enterCatching
  dsimp only
  split
  · exact ((h.moveStart _).withMonitor _).startRunning
  · exact (h.moveStart _).withMonitor _

theorem Beside.failCrank (h : Beside s₀ s) : Beside s₀ s.failCrank := h.land .failedCrank

theorem Beside.react (h : Beside s₀ s) : Beside s₀ s.react := by
  unfold State.react
  split
  · exact h.reactIdle
  · exact h.reactIdle
  · split
    · exact h.withMonitor _
    · exact h
  · split
    · exact h.startRunning
    · exact h
  · exact h.reactRunning

theorem Beside.atMonitor (h : Beside s₀ s) {f : State → State} (event : Beside s₀ (f s)) : Beside s₀ (s.atMonitor f) := by
  unfold State.atMonitor
  split
  · exact h
  · exact event

theorem Beside.speedHandOn (h : Beside s₀ s) : Beside s₀ s.speedHandOn := by
  refine h.atMonitor ?_
  dsimp only
  split
  · exact h.react.withMonitor _
  · exact h.react

theorem Beside.putRecord (h : Beside s₀ s) (q : Quantity) (r : QRecord) : Beside s₀ (s.putRecord q r) :=
  (h.withBoard _).publish _ _

theorem Beside.refresh (h : Beside s₀ s) (q : Quantity) (v : Int) (source : Source) : Beside s₀ (s.refresh q v source) :=
  h.putRecord q _

theorem Beside.dutyGear (h : Beside s₀ s) : Beside s₀ s.dutyGear := by
  unfold State.dutyGear
  split
  · dsimp only
    split
    · exact h.withDuty _
    · split
      · exact h
      · split
        · exact (h.land .shift).withDuty _
        · exact h.withDuty _
  · exact h

theorem Beside.gearHandOn (h : Beside s₀ s) : Beside s₀ s.gearHandOn := h.cycleHandOn.dutyGear

theorem Beside.putGear (h : Beside s₀ s) (r : QRecord) : Beside s₀ (s.putGear r) := by
  unfold State.putGear
  dsimp only
  split
  · exact (h.putRecord _ _).gearHandOn
  · exact h.putRecord _ _

theorem Beside.evaluateGear (h : Beside s₀ s) : Beside s₀ s.evaluateGear := by
  unfold State.evaluateGear
  dsimp only
  split
  · exact h.putGear _
  · exact h

theorem Beside.clutchHandOn (h : Beside s₀ s) : Beside s₀ s.clutchHandOn := h.cycleHandOn.evaluateGear

theorem Beside.putClutch (h : Beside s₀ s) (r : QRecord) : Beside s₀ (s.putClutch r) := by
  unfold State.putClutch
  dsimp only
  split
  · exact (h.putRecord _ _).clutchHandOn
  · exact h.putRecord _ _

theorem Beside.applySample (h : Beside s₀ s) (q : Quantity) (v : Int) (source : Source) : Beside s₀ (s.applySample q v source) := by
  unfold State.applySample
  split
  · exact (h.refresh _ _ _).speedHandOn
  · exact (h.refresh _ _ _).evaluateGear
  · exact (h.refresh _ _ _).evaluateGear
  · exact h.refresh _ _ _
  · exact (h.refresh _ _ _).cycleHandOn
  · exact h.refresh _ _ _
  · exact h.putClutch _
  · exact h.putGear _

theorem Beside.castShadow (h : Beside s₀ s) (target : RouteTarget) (v : Int) : Beside s₀ (s.castShadow target v) := by
  unfold State.castShadow
  dsimp only
  split
  · exact h.withBoard _
  · exact h.withBoard _
  · exact h.withBoard _
  · exact h
  · exact h
  · exact h

theorem Beside.deliverFrame (h : Beside s₀ s) (target : RouteTarget) (v : Int) : Beside s₀ (s.deliverFrame target v).2 := by
  unfold State.deliverFrame
  split
  · exact h
  · generalize (if target = .gear then s.tune.gearbox.store v else v) = stored
    dsimp only
    split
    · exact (h.castShadow _ _).applySample _ _ _
    · exact h.castShadow _ _

end

end Sys2Proof.Proofs
end

section
/-! The tallies, how a candidate ends, and a FEED that goes on record by record. -/
namespace Sys2Proof.Proofs
open Sys2Proof Sys2Proof.Machine

/-! ### Tallies (R68) -/

theorem tally_index_lt (k : Tally) : k.index < 7 := by cases k <;> decide

/-- A tally below its ceiling gains 1 and is published. -/
theorem bumpTally_below {s : State} {k : Tally} (below : s.intake.tallies.get k < Config.tallyCeiling) :
    s.bumpTally k = (s.withIntake { s.intake with tallies := s.intake.tallies.set k (s.intake.tallies.get k + 1) }).publish
      (0x28 + 4 * k.index) (leBytes 4 (s.intake.tallies.get k + 1)) := by
  have next : satAdd Config.tallyCeiling (s.intake.tallies.get k) 1 = s.intake.tallies.get k + 1 := by
    unfold satAdd
    omega
  unfold State.bumpTally
  dsimp only
  rw [next, if_neg (by omega)]

theorem bumpTally_shown {s : State} {k : Tally} (live : s.live) (form : s.port.mem.wf)
    (below : s.intake.tallies.get k < Config.tallyCeiling) :
    s.bumpTally k = { s with
        intake := { s.intake with tallies := s.intake.tallies.set k (s.intake.tallies.get k + 1) }
        port := { s.port with mem := (s.bumpTally k).port.mem } }
      ∧ memLe (s.bumpTally k).port.mem 4 (0x28 + 4 * k.index) = s.intake.tallies.get k + 1
      ∧ bytesKept s (s.bumpTally k) (within (0x28 + 4 * k.index) 4) := by
  have low := tally_index_lt k
  have fits : 0x28 + 4 * k.index + 4 ≤ Config.memorySize := by unfold Config.memorySize; omega
  rw [bumpTally_below below, State.publish_live _ _ _ (by exact live.2)]
  refine ⟨rfl, ?_, ?_⟩
  · rw [memLe_store (by exact form) fits]
    unfold Config.tallyCeiling ceilingOf at below
    omega
  · refine State.store_kept _ _ _ _ (by exact form) (by simpa using fits) fun c hc => ?_
    simpa using hc

theorem bumpTally_wf {s : State} (form : s.port.mem.wf) (k : Tally) : (s.bumpTally k).port.mem.wf := by
  unfold State.bumpTally
  dsimp only
  split
  · exact form
  · exact State.publish_wf _ _ _ form

/-- A tally moves the tallies and exchange memory alone. -/
theorem bumpTally_frame (s : State) (k : Tally) : s.bumpTally k = { s with
    intake := { s.intake with tallies := (s.bumpTally k).intake.tallies }, port := { s.port with mem := (s.bumpTally k).port.mem } } := by
  unfold State.bumpTally
  dsimp only
  split
  · rfl
  · rw [State.publish_frame]
    rfl

theorem bumpTally_scanner (s : State) (k : Tally) : (s.bumpTally k).scanner = s.scanner := by rw [bumpTally_frame]

theorem bumpTally_routes (s : State) (k : Tally) : (s.bumpTally k).intake.routes = s.intake.routes := by rw [bumpTally_frame]

theorem bumpTally_supply (s : State) (k : Tally) : (s.bumpTally k).supply = s.supply := by rw [bumpTally_frame]

/-! ### How a candidate ends -/

/-- The values of a target's range as the statement gives them (R66). -/
theorem clampTarget_eq (target : RouteTarget) (v : Int) :
    clampTarget target v =
      let range := quantityRange (targetQuantity target)
      if v < range.1 then range.1 else if range.2 < v then range.2 else v := by
  have main (lo hi : Int) (le : lo ≤ hi) : max lo (min hi v) = if v < lo then lo else if hi < v then hi else v := by
    split <;> [skip; split] <;> omega
  cases target <;> exact main _ _ (by decide)

theorem isLate_iff (mark : Option (BitVec 32)) (time : BitVec 32) :
    isLate mark time = true ↔ ∃ m, mark = some m ∧ 1 ≤ (m - time).toNat ∧ (m - time).toNat ≤ 2 ^ 31 - 1 := by
  cases mark with
  | none => simp [isLate]
  | some m =>
    simp only [isLate, decide_eq_true_eq, Option.some.injEq, exists_eq_left']
    omega

theorem notAvailable_iff (e : RouteEntry) (f : Frame) :
    e.notAvailable f = true ↔ e.signed = false ∧ e.field f = 2 ^ e.width - 1 := by
  simp [RouteEntry.notAvailable]

/-- A candidate's four ends, in their order (R62 to R64). -/
theorem handleCandidate_ends {s : State} {f : Frame} {i : Nat} {r : Route} (found : s.intake.routes[i]? = some r) :
    (¬ r.entry.inFrame f = true → s.handleCandidate f i = (false, s.bumpTally .shortFrame))
      ∧ (r.entry.inFrame f = true → r.entry.notAvailable f = true → s.handleCandidate f i = (false, s.bumpTally .na))
      ∧ (r.entry.inFrame f = true → ¬ r.entry.notAvailable f = true → isLate r.mark f.time = true →
        s.handleCandidate f i = (false, s.bumpTally .late))
      ∧ (r.entry.inFrame f = true → ¬ r.entry.notAvailable f = true → ¬ isLate r.mark f.time = true →
        s.handleCandidate f i = State.deliverValue
          (s.withIntake { s.intake with routes := s.intake.routes.set i ⟨r.entry, some f.time⟩ }) r.entry.target
          (r.entry.scale (r.entry.raw f))) := by
  unfold State.handleCandidate
  simp only [found]
  refine ⟨fun short => ?_, fun fits na => ?_, fun fits known late => ?_, fun fits known punctual => ?_⟩
  · simp [short]
  · simp [fits, na]
  · simp [fits, known, late]
  · simp [fits, known, punctual]

theorem handleCandidate_rules (s : State) (f : Frame) (i : Nat) (r : Route) (found : s.intake.routes[i]? = some r) :
    let field := leNat f.data / 2 ^ r.entry.startBit % 2 ^ r.entry.width
    let fits := r.entry.startBit + r.entry.width ≤ 8 * f.length
    let na := r.entry.signed = false ∧ field = 2 ^ r.entry.width - 1
    let late := ∃ m, r.mark = some m ∧ 1 ≤ (m - f.time).toNat ∧ (m - f.time).toNat ≤ 2 ^ 31 - 1
    (¬ fits → s.handleCandidate f i = (false, s.bumpTally .shortFrame))
      ∧ (fits → na → s.handleCandidate f i = (false, s.bumpTally .na))
      ∧ (fits → ¬ na → late → s.handleCandidate f i = (false, s.bumpTally .late))
      ∧ (fits → ¬ na → ¬ late →
        s.handleCandidate f i = State.deliverValue
          { s with intake := { s.intake with routes := s.intake.routes.set i ⟨r.entry, some f.time⟩ } } r.entry.target
          (r.entry.scale (if r.entry.signed = true ∧ 2 ^ r.entry.width ≤ 2 * field then (field : Int) - 2 ^ r.entry.width
            else field))) := by
  obtain ⟨short, none_, late_, accepted⟩ := handleCandidate_ends (f := f) found
  have inside : r.entry.inFrame f = true ↔ r.entry.startBit + r.entry.width ≤ 8 * f.length := decide_eq_true_iff
  have na := notAvailable_iff r.entry f
  have late := isLate_iff r.mark f.time
  simp only [inside, na, late] at short none_ late_ accepted
  exact ⟨short, none_, late_, accepted⟩

/-! ### Delivery -/

theorem store_eq (t : GearTune) (v : Int) :
    t.store v = if (t.forward : Int) < v ∨ (t.reverse : Int) < -v then 13 else v := rfl

/-- Which frame samples the board applies rests on the tuning, the channels and the record of GEAR. -/
theorem frameFeeds_congr {s t : State} (tune : t.tune = s.tune) (pulse : t.pulse = s.pulse)
    (gear : t.board.gear = s.board.gear) (target : RouteTarget) : t.frameFeeds target = s.frameFeeds target := by
  unfold State.frameFeeds State.channelYields
  rw [tune, pulse, gear]

theorem frameFeeds_castShadow (s : State) (target cast : RouteTarget) (v : Int) :
    (s.castShadow cast v).frameFeeds target = s.frameFeeds target :=
  frameFeeds_congr (by cases cast <;> rfl) (by cases cast <;> rfl) (by cases cast <;> rfl) target

/-- The state once a value's clamping has been tallied (R66). -/
def clampTallied (s : State) (target : RouteTarget) (v : Int) : State :=
  if clampTarget target v = v then s else s.bumpTally .clamped

theorem clampTallied_frame (s : State) (target : RouteTarget) (v : Int) : clampTallied s target v = { s with
    intake := { s.intake with tallies := (clampTallied s target v).intake.tallies }
    port := { s.port with mem := (clampTallied s target v).port.mem } } := by
  unfold clampTallied
  split
  · rfl
  · exact bumpTally_frame s .clamped

/-- What a delivery does: nothing in DOZE; else the shadow is cast, and the value applied where its source yields (R23 to R32, R67). -/
theorem deliverValue_ends (s : State) (target : RouteTarget) (v : Int) :
    let stored := if target = .gear then s.tune.gearbox.store (clampTarget target v) else clampTarget target v
    let cast := (clampTallied s target v).castShadow target stored
    (s.supply.power = .doze → s.deliverValue target v = (false, (clampTallied s target v).bumpTally .shadowed))
      ∧ (s.supply.power ≠ .doze → s.frameFeeds target = false → s.deliverValue target v = (false, cast.bumpTally .shadowed))
      ∧ (s.supply.power ≠ .doze → s.frameFeeds target = true →
        s.deliverValue target v = (true, cast.applySample (targetQuantity target) stored .frame)) := by
  intro stored cast
  have frame := clampTallied_frame s target v
  have power : (clampTallied s target v).supply = s.supply := by rw [frame]
  have tune : (clampTallied s target v).tune = s.tune := by rw [frame]
  have feeds : cast.frameFeeds target = s.frameFeeds target := by
    rw [frameFeeds_castShadow]
    exact frameFeeds_congr tune (by rw [frame]) (by rw [frame]) target
  have delivered : s.deliverValue target v =
      let d := (clampTallied s target v).deliverFrame target (clampTarget target v)
      if d.1 then (true, d.2) else (false, d.2.bumpTally .shadowed) := rfl
  refine ⟨fun doze => ?_, fun awake yields => ?_, fun awake yields => ?_⟩
  · rw [delivered]
    simp only [State.deliverFrame, power, doze, if_true, Bool.false_eq_true, if_false]
  · rw [delivered]
    simp only [State.deliverFrame, power, awake, if_false, tune]
    rw [show (State.castShadow _ _ _).frameFeeds target = false from feeds.trans yields]
    rfl
  · rw [delivered]
    simp only [State.deliverFrame, power, awake, if_false, tune]
    rw [show (State.castShadow _ _ _).frameFeeds target = true from feeds.trans yields]
    rfl

theorem castShadow_clampTallied (s : State) (target cast : RouteTarget) (v x : Int) :
    (clampTallied s target v).castShadow cast x =
      { clampTallied s target v with board := (s.castShadow cast x).board } := by
  rw [clampTallied_frame]
  cases cast <;> rfl

/-- The three ends of a delivery, with its clamped value, its tally, its shadow and its source's condition under other names. -/
theorem deliverValue_named {s : State} {target : RouteTarget} {v c stored : Int} {tallied cast : State} {feeds : Prop}
    (clamped : clampTarget target v = c) (tally : clampTallied s target v = tallied)
    (store : (if target = .gear then s.tune.gearbox.store c else c) = stored)
    (shadow : { tallied with board := (s.castShadow target stored).board } = cast)
    (condition : s.frameFeeds target = true ↔ feeds) :
    (s.supply.power = .doze → s.deliverValue target v = (false, tallied.bumpTally .shadowed))
      ∧ (s.supply.power ≠ .doze → ¬ feeds → s.deliverValue target v = (false, cast.bumpTally .shadowed))
      ∧ (s.supply.power ≠ .doze → feeds →
        s.deliverValue target v = (true, cast.applySample (targetQuantity target) stored .frame)) := by
  have ends := deliverValue_ends s target v
  subst clamped tally store shadow
  simp only [castShadow_clampTallied] at ends
  exact ⟨ends.1, fun awake yields => ends.2.1 awake (Bool.eq_false_iff.2 fun h => yields (condition.1 h)),
    fun awake yields => ends.2.2 awake (condition.2 yields)⟩

theorem channelYields_iff (s : State) (ch : Channel) :
    s.channelYields ch = true ↔ s.tune.pulse.teeth ch = 0 ∨ (s.pulse.get ch).health = .faulted := by
  simp [State.channelYields]

theorem gearFeeds_iff (s : State) :
    s.frameFeeds .gear = true ↔ ¬ (s.board.gear.age = .fresh ∧ s.board.gear.source = .derived) := by
  simp [State.frameFeeds, imp_iff_not_or]

/-- Settles O30. -/
theorem candidateEndsByItsRule : Obligations.CandidateEndsByItsRule := by
  refine ⟨handleCandidate_rules, fun s target v => ?_, fun s k live form below => bumpTally_shown live form below⟩
  have clamped := clampTarget_eq target v
  have tally : clampTallied s target v = if clampTarget target v = v then s else s.bumpTally .clamped := rfl
  have still : { clampTallied s target v with board := s.board } = clampTallied s target v := by rw [clampTallied_frame]
  rw [clamped] at tally
  rw [tally] at still
  cases target with
  | engineSpeed => exact deliverValue_named clamped tally rfl rfl (channelYields_iff s .p0)
  | outputSpeed => exact deliverValue_named clamped tally rfl rfl (channelYields_iff s .p2)
  | engineTorque => exact deliverValue_named clamped tally rfl still (by simp [State.frameFeeds])
  | coolantTemp => exact deliverValue_named clamped tally rfl still (by simp [State.frameFeeds])
  | clutch => exact deliverValue_named clamped tally rfl still (by simp [State.frameFeeds])
  | gear =>
    have store (c : Int) : s.tune.gearbox.store c =
        if RouteTarget.gear = .gear ∧ ((s.tune.gearbox.forward : Int) < c ∨ (s.tune.gearbox.reverse : Int) < -c) then 13 else c := by
      simp [store_eq]
    exact deliverValue_named clamped tally (store _) rfl (gearFeeds_iff s)

end Sys2Proof.Proofs
end

section
/-! A FEED in progress, record by record and candidate by candidate (R61, R69). -/
namespace Sys2Proof.Proofs
open Sys2Proof Sys2Proof.Machine

/-! ### The scanner while a candidate is handled -/

theorem dispatched_congr {s t : State} (h : t.scanner = s.scanner) (kind : SlipKind) : t.dispatched kind = s.dispatched kind := by
  unfold State.dispatched
  rw [h]

theorem deliverValue_scanner (s : State) (target : RouteTarget) (v : Int) : (s.deliverValue target v).2.scanner = s.scanner := by
  have delivered := ((Beside.refl (clampTallied s target v)).deliverFrame target (clampTarget target v)).scanner
  have tallied : (clampTallied s target v).scanner = s.scanner := by rw [clampTallied_frame]
  show State.scanner (Prod.snd (let d := (clampTallied s target v).deliverFrame target (clampTarget target v)
    if d.1 then (true, d.2) else (false, d.2.bumpTally .shadowed))) = s.scanner
  dsimp only
  split
  · exact delivered.trans tallied
  · exact (bumpTally_scanner _ _).trans (delivered.trans tallied)

theorem handleCandidate_scanner (s : State) (f : Frame) (i : Nat) : (s.handleCandidate f i).2.scanner = s.scanner := by
  unfold State.handleCandidate
  split
  · rfl
  · split
    · exact bumpTally_scanner s _
    · split
      · exact bumpTally_scanner s _
      · split
        · exact bumpTally_scanner s _
        · exact deliverValue_scanner _ _ _

/-! ### The steps of a FEED -/

theorem exec_feedCandidate {s : State} (on : s.powered = true) : exec .feedCandidate s = .next (feedCandidate s) := act_on on _

theorem feedCandidate_record {s : State} {w : FeedWork} (feed : s.intake.feed = some w) (idle : w.inHand = none)
    (left : w.next < w.total) : feedCandidate s = s.feedRecord w := by
  simp only [feedCandidate, feed, idle, left, if_true]

theorem feedCandidate_inHand {s : State} {w : FeedWork} {f : Frame} {left : List Nat} (feed : s.intake.feed = some w)
    (hand : w.inHand = some ⟨f, left⟩) : feedCandidate s = s.feedNext w f left := by
  simp only [feedCandidate, feed, hand]

/-- With work left the FEED goes on. -/
theorem feedOn_left {s : State} {w : FeedWork} (h : w.inHand ≠ none ∨ w.next < w.total) : s.feedOn w = s.setFeed (some w) := by
  unfold State.feedOn
  rw [if_neg]
  rintro ⟨none_, done⟩
  exact h.elim (fun some_ => some_ none_) (fun left => absurd left (Nat.not_lt.2 done))

/-- With none left it is returned DONE with the count of samples applied (R69). -/
theorem feedOn_done {s : State} {w : FeedWork} {p : Slip} (none_ : w.inHand = none) (done : w.total ≤ w.next)
    (held : s.dispatched .feed = some p) : s.feedOn w = (s.setFeed none).returnSlip p ⟨.done, w.applied, 0⟩ := by
  unfold State.feedOn State.completeFeed
  rw [if_pos ⟨none_, done⟩]
  simp only [held]

theorem mem_matchingRoutes (routes : List Route) (tag : BitVec 29) (k : Nat) :
    k ∈ matchingRoutes routes tag ↔ ∃ r, routes[k]? = some r ∧ r.entry.tag = tag := by
  unfold matchingRoutes
  simp only [List.mem_filterMap, Prod.exists, List.mem_zipIdx_iff_getElem?]
  constructor
  · rintro ⟨r, i, found, h⟩
    split at h
    · cases h
      exact ⟨r, found, ‹_›⟩
    · cases h
  · rintro ⟨r, found, carries⟩
    exact ⟨r, k, found, if_pos carries⟩

/-- Candidates follow the order of the table (R61). -/
theorem matchingRoutes_sorted (routes : List Route) (tag : BitVec 29) : (matchingRoutes routes tag).Pairwise (· < ·) := by
  have indices : (routes.zipIdx.map Prod.snd).Pairwise (· < ·) := by
    rw [List.zipIdx_map_snd]
    exact List.pairwise_lt_range'
  have step : matchingRoutes routes tag =
      ((routes.zipIdx.filter (fun e => decide (e.1.entry.tag = tag))).map Prod.snd) := by
    unfold matchingRoutes
    induction routes.zipIdx with
    | nil => rfl
    | cons e rest ih => by_cases h : e.1.entry.tag = tag <;> simp [h, ih]
  rw [step]
  exact indices.sublist (List.filter_sublist.map _)

theorem matchingRoutes_nil {routes : List Route} {tag : BitVec 29} (h : ∀ r ∈ routes, r.entry.tag ≠ tag) :
    matchingRoutes routes tag = [] := by
  refine List.eq_nil_iff_forall_not_mem.2 fun k hk => ?_
  obtain ⟨r, found, carries⟩ := (mem_matchingRoutes routes tag k).1 hk
  exact h r (List.mem_of_getElem? found) carries

/-- A record without a candidate is tallied and finished. -/
theorem feedRecord_unrouted {s : State} {w : FeedWork}
    (none_ : matchingRoutes s.intake.routes (readFrame s.port.mem (w.base + 16 * w.next)).tag = []) :
    s.feedRecord w = ((s.bumpTally .taken).bumpTally .unrouted).feedOn { w with next := w.next + 1 } := by
  simp only [State.feedRecord, none_]

/-- A record with candidates has its first one handled. -/
theorem feedRecord_routed {s : State} {w : FeedWork} {i : Nat} {rest : List Nat}
    (some_ : matchingRoutes s.intake.routes (readFrame s.port.mem (w.base + 16 * w.next)).tag = i :: rest) :
    s.feedRecord w = (s.bumpTally .taken).feedNext { w with next := w.next + 1 }
      (readFrame s.port.mem (w.base + 16 * w.next)) (i :: rest) := by
  simp only [State.feedRecord, some_]

theorem applied_eq (handled : Bool) (n : Nat) : (if handled = true then n + 1 else n) = n + (if handled = true then 1 else 0) := by
  cases handled <;> rfl

/-- A candidate with work left after it. -/
theorem feedNext_left {s : State} {w : FeedWork} {f : Frame} {i : Nat} {rest : List Nat} (h : rest ≠ [] ∨ w.next < w.total) :
    s.feedNext w f (i :: rest) = (s.handleCandidate f i).2.setFeed (some { w with
      inHand := if rest = [] then none else some ⟨f, rest⟩
      applied := w.applied + (if (s.handleCandidate f i).1 = true then 1 else 0) }) := by
  unfold State.feedNext
  dsimp only
  rw [applied_eq, feedOn_left]
  refine h.imp (fun more => ?_) id
  dsimp only
  rw [if_neg more]
  exact Option.some_ne_none _

/-- The last candidate of the last record. -/
theorem feedNext_done {s : State} {w : FeedWork} {f : Frame} {i : Nat} {p : Slip} (done : w.total ≤ w.next)
    (held : s.dispatched .feed = some p) : s.feedNext w f [i] = ((s.handleCandidate f i).2.setFeed none).returnSlip p
      ⟨.done, w.applied + (if (s.handleCandidate f i).1 = true then 1 else 0), 0⟩ := by
  unfold State.feedNext
  dsimp only
  rw [applied_eq, feedOn_done (by rfl) (by exact done) ((dispatched_congr (handleCandidate_scanner s f i) .feed).trans held)]

/-- The two tallies of an UNROUTED record, and what they show. -/
theorem unrouted_tallied {s : State} (live : s.live) (form : s.port.mem.wf)
    (taken : s.intake.tallies.taken < Config.tallyCeiling) (unrouted : s.intake.tallies.unrouted < Config.tallyCeiling) :
    let t := (s.bumpTally .taken).bumpTally .unrouted
    t = { s with
        intake := { s.intake with
          tallies := { s.intake.tallies with
            taken := s.intake.tallies.taken + 1, unrouted := s.intake.tallies.unrouted + 1 } }
        port := { s.port with mem := t.port.mem } }
      ∧ memLe t.port.mem 4 0x28 = s.intake.tallies.taken + 1 ∧ memLe t.port.mem 4 0x2C = s.intake.tallies.unrouted + 1
      ∧ bytesKept s t (within 0x28 8) := by
  intro t
  obtain ⟨frame₁, shown₁, kept₁⟩ := bumpTally_shown (k := .taken) live form taken
  have tallies : (s.bumpTally .taken).intake.tallies.get .unrouted = s.intake.tallies.unrouted := by rw [frame₁]; rfl
  obtain ⟨frame₂, shown₂, kept₂⟩ := bumpTally_shown (s := s.bumpTally .taken) (k := .unrouted) (by rw [frame₁]; exact live)
    (bumpTally_wf form _) (by rw [tallies]; exact unrouted)
  change bytesKept s (s.bumpTally .taken) (within 0x28 4) at kept₁
  change bytesKept (s.bumpTally .taken) t (within 0x2C 4) at kept₂
  refine ⟨?_, ?_, ?_, ?_⟩
  · change t = _ at frame₂
    clear_value t
    generalize s.bumpTally .taken = b at frame₁ frame₂ tallies
    rw [frame₂, tallies, frame₁]
    rfl
  · have kept : memLe t.port.mem 4 0x28 = memLe (s.bumpTally .taken).port.mem 4 0x28 :=
      memLe_kept kept₂ (by decide) fun i hi => by
        unfold within
        omega
    exact kept.trans shown₁
  · rw [tallies] at shown₂
    exact shown₂
  · refine bytesKept_trans (bytesKept_mono kept₁ fun a h => ?_) (bytesKept_mono kept₂ fun a h => ?_)
    · unfold within at *
      omega
    · unfold within at *
      omega

/-- Settles O29. -/
theorem feedGoesRecordByRecord : Obligations.FeedGoesRecordByRecord := by
  refine ⟨fun s w live form feed idle left unmatched taken unrouted => ?_,
    fun s w p holds feed idle last unmatched => ?_,
    fun routes tag => ⟨matchingRoutes_sorted routes tag, mem_matchingRoutes routes tag⟩,
    fun s w i rest on feed idle left matched => ⟨fun more => ?_, fun p alone last holds => ?_⟩,
    fun s w f i j rest on feed hand => ?_, fun s w f i on feed hand left => ?_, fun s w f i p holds feed hand done => ?_⟩
  · rw [exec_feedCandidate live.1, feedCandidate_record feed idle (by omega), feedRecord_unrouted (matchingRoutes_nil unmatched),
      feedOn_left (.inr left)]
    obtain ⟨frame, shown, shown_, kept⟩ := unrouted_tallied live form taken unrouted
    refine ⟨_, rfl, ?_, shown, shown_, kept⟩
    unfold State.setFeed
    rw [frame]
    rfl
  · rw [exec_feedCandidate holds.1, feedCandidate_record feed idle (by omega), feedRecord_unrouted (matchingRoutes_nil unmatched),
      feedOn_done (by exact idle) (by exact last.ge)]
    rw [dispatched_congr ((bumpTally_scanner _ _).trans (bumpTally_scanner s _))]
    exact holds.2.1
  · rw [exec_feedCandidate on, feedCandidate_record feed idle left, feedRecord_routed matched, feedNext_left more]
  · subst alone
    rw [exec_feedCandidate on, feedCandidate_record feed idle left, feedRecord_routed matched, feedNext_done last.ge]
    rw [dispatched_congr (bumpTally_scanner s _)]
    exact holds.2.1
  · rw [exec_feedCandidate on, feedCandidate_inHand feed hand, feedNext_left (.inl (List.cons_ne_nil _ _))]
    rfl
  · rw [exec_feedCandidate on, feedCandidate_inHand feed hand, feedNext_left (.inr left)]
    rfl
  · rw [exec_feedCandidate holds.1, feedCandidate_inHand feed hand, feedNext_done done holds.2.1]

end Sys2Proof.Proofs
end

section
/-! Records put on the board, and the samples of a hand-on to the cycle counter (R110 to R112). -/
namespace Sys2Proof.Proofs
open Sys2Proof Sys2Proof.Machine

/-! ### A record put (R35) -/

theorem quantityIndex_lt (q : Quantity) : quantityIndex q < 8 := by cases q <;> decide

@[simp] theorem QRecord.bytes_length (r : QRecord) : r.bytes.length = 12 := by
  simp [QRecord.bytes, leInt16]

/-- A record put changes the board and exchange memory alone. -/
theorem putRecord_frame (s : State) (q : Quantity) (r : QRecord) :
    s.putRecord q r = { s with board := s.board.set q r, port := { s.port with mem := (s.putRecord q r).port.mem } } := by
  unfold State.putRecord State.publishRecord
  rw [State.publish_frame]
  rfl

theorem board_get_set (b : Board) (q : Quantity) (r : QRecord) : (b.set q r).get q = r := by cases q <;> rfl

/-- It rewrites the mirror of that record alone. -/
theorem putRecord_kept {s : State} (form : s.port.mem.wf) (q : Quantity) (r : QRecord) :
    bytesKept s (s.putRecord q r) (within (0x50 + 12 * quantityIndex q) 12) := by
  have low := quantityIndex_lt q
  refine State.publish_kept (s.withBoard (s.board.set q r)) _ _ _ form ?_ fun c hc => ?_
  · rw [QRecord.bytes_length]
    unfold Config.memorySize
    omega
  · rwa [QRecord.bytes_length] at hc

theorem putRecord_wf {s : State} (form : s.port.mem.wf) (q : Quantity) (r : QRecord) : (s.putRecord q r).port.mem.wf :=
  State.publish_wf (s.withBoard (s.board.set q r)) _ _ form

/-- At a live port the mirror shows the record byte by byte. -/
theorem putRecord_byteAt {s : State} (form : s.port.mem.wf) (high : s.resetLow = false) (q : Quantity) (r : QRecord) {i : Nat}
    (hi : i < 12) : (s.putRecord q r).byteAt (0x50 + 12 * quantityIndex q + i) = r.bytes.getD i 0 := by
  have low := quantityIndex_lt q
  unfold State.putRecord State.publishRecord
  rw [byteAt_publish (by exact form) (by exact high) (by rw [QRecord.bytes_length]; unfold Config.memorySize; omega)
    (by unfold Config.memorySize; omega), QRecord.bytes_length, if_pos (by omega), Nat.add_sub_cancel_left,
    State.withBoard_board, board_get_set]

/-! ### Channel values -/

theorem fittedWhere_congr {s t : State} (h : t.slots = s.slots) (f : Component → Bool) : t.fittedWhere f = s.fittedWhere f := by
  unfold State.fittedWhere
  rw [h]

theorem slotAt_congr {s t : State} (h : t.slots = s.slots) (i : Nat) : t.slotAt i = s.slotAt i := by
  unfold State.slotAt
  rw [h]

/-- The clutch is not known DEPRESSED and a valid non-neutral gear stands (R111). -/
def Engaged (b : Board) : Prop :=
  ¬ (b.clutch.age ≠ .unknown ∧ b.clutch.value = 1)
    ∧ b.gear.age ≠ .unknown ∧ ((1 ≤ b.gear.value ∧ b.gear.value ≤ 12) ∨ b.gear.value = -1 ∨ b.gear.value = -2)

theorem engaged_iff (b : Board) : (!b.clutchOpen && b.inGear) = true ↔ Engaged b := by
  simp [Engaged, Board.clutchOpen, Board.inGear, QRecord.known, nonNeutral, imp_iff_not_or]

/-- A share of a torque and a ratio in their ranges lies inside the clamp (R113). -/
theorem share_in_range {torque : Int} {ratio n : Nat} (positive : 0 < n) (ht : torque.natAbs ≤ 250) (hr : ratio ≤ 2047) :
    (roundHalfAway (torque * ratio) (512 * n)).natAbs ≤ 2047 := by
  rw [natAbs_roundHalfAway, Int.natAbs_mul, Int.natAbs_natCast]
  have product : torque.natAbs * ratio ≤ 250 * 2047 := Nat.mul_le_mul ht hr
  refine Nat.div_le_of_le_mul ?_
  have : 2 * (512 * 1) * 2047 ≤ 2 * (512 * n) * 2047 := by
    refine Nat.mul_le_mul_right _ (Nat.mul_le_mul_left _ (Nat.mul_le_mul_left _ positive))
  have : 512 * n ≤ 2 * (512 * n) * 1023 := by nlinarith
  omega

theorem clampInt_inside {lo hi v : Int} (low : lo ≤ v) (high : v ≤ hi) : clampInt lo hi v = v := by
  unfold clampInt
  omega

/-- The value of an AXLE's share, without its sign in reverse (R112). -/
theorem axleShare_engaged {s : State} (engaged : Engaged s.board) (n : Nat) :
    (if s.board.gear.value < 0 then -s.axleShare n else s.axleShare n)
      = roundHalfAway (s.board.engineTorque.value * s.tune.gearbox.ratioOf s.board.gear.value) (512 * n) := by
  unfold State.axleShare
  rw [if_pos ((engaged_iff s.board).2 engaged)]
  dsimp only
  split <;> simp

/-- Every sample of a hand-on has the value that R111 and R112 give its slot. -/
theorem newSamples_handsOn {s : State} {x : SlotSample} (hx : x ∈ s.newSamples) {c : Component} (hc : s.slotAt x.slot = some c) :
    s.handsOn c x := by
  unfold State.newSamples at hx
  obtain ⟨e, fitted, rfl⟩ := List.mem_map.1 hx
  obtain ⟨stands, _⟩ := (State.mem_fittedWhere s _ e).1 fitted
  have idle (not_ : ¬ Engaged s.board) : s.gearboxValue = 0 ∧ ∀ n, s.axleShare n = 0 := by
    unfold State.gearboxValue State.axleShare
    rw [Bool.eq_false_iff.2 (mt (engaged_iff s.board).1 not_)]
    exact ⟨rfl, fun _ => rfl⟩
  by_cases axle : e.2.cls = .axle
  · rw [if_pos axle] at hc ⊢
    obtain rfl : e.2 = c := Option.some.inj (stands.symm.trans hc)
    refine ⟨fun not_ => ?_, fun _ box => ?_, fun engaged _ ht hr => ?_⟩
    · dsimp only
      rw [(idle not_).2]
      exact ⟨rfl, rfl⟩
    · rw [axle] at box
      cases box
    · have fitted_ : 0 < (s.fittedWhere (fun c => decide (c.cls = .axle))).length :=
        List.length_pos_of_mem ((State.mem_fittedWhere s _ e).2 ⟨stands, decide_eq_true axle⟩)
      generalize (s.fittedWhere (fun c => decide (c.cls = .axle))).length = n at fitted_ ⊢
      have value := axleShare_engaged engaged n
      have range : (s.axleShare n).natAbs ≤ 2047 := by
        have := share_in_range (torque := s.board.engineTorque.value) (ratio := s.tune.gearbox.ratioOf s.board.gear.value)
          fitted_ ht hr
        rw [← value] at this
        split at this <;> omega
      have inside : clampInt (-2047) 2047 (s.axleShare n) = s.axleShare n := clampInt_inside (by omega) (by omega)
      dsimp only
      rw [inside, value]
      refine ⟨by simp, roundHalfAway_nearest _ (by omega), roundHalfAway_tie_away _ (by omega)⟩
  · rw [if_neg axle] at hc ⊢
    obtain rfl : e.2 = c := Option.some.inj (stands.symm.trans hc)
    refine ⟨fun not_ => ⟨(idle not_).1, rfl⟩, fun engaged _ => ⟨?_, rfl⟩, fun _ isAxle => absurd isAxle axle⟩
    unfold State.gearboxValue
    rw [if_pos ((engaged_iff s.board).2 engaged)]

theorem newSamples_slots (s : State) :
    s.newSamples.map (·.slot) = (s.fittedWhere (fun c => c.cls.hasResidue)).map (·.1) := by
  unfold State.newSamples
  rw [List.map_map]
  refine List.map_congr_left fun e _ => ?_
  dsimp only [Function.comp_apply]
  split <;> rfl

/-- A hand-on to the cycle counter makes its samples and no other (R110). -/
theorem cycleHandOn_feeds (s : State) : s.feedsCounter s.cycleHandOn.samples := by
  unfold State.cycleHandOn
  refine ⟨fun acts => ?_, fun rests => by rw [if_neg rests]⟩
  rw [if_pos acts]
  refine ⟨by simp, ?_, fun x hx c hc => ?_⟩
  · rw [State.withSamples_samples, List.drop_left]
    exact newSamples_slots s
  · rw [State.withSamples_samples, List.drop_left] at hx
    exact newSamples_handsOn hx hc

/-! ### An accepted torque, an accepted temperature -/

/-- An ENGINE_TORQUE value inside its range is refreshed and handed on (R28, R34). -/
theorem deliverValue_torque {s : State} {v : Int} (awake : s.supply.power ≠ .doze) (low : -250 ≤ v) (high : v ≤ 250) :
    s.deliverValue .engineTorque v = (true, (s.refresh .engineTorque v .frame).cycleHandOn) := by
  have clamped : clampTarget .engineTorque v = v := clampInt_inside low high
  exact (deliverValue_named clamped (if_pos clamped) (by rfl) rfl (by simp [State.frameFeeds] : _ ↔ True)).2.2 awake trivial

theorem deliverValue_coolant {s : State} {v : Int} (awake : s.supply.power ≠ .doze) (low : -40 ≤ v) (high : v ≤ 210) :
    s.deliverValue .coolantTemp v = (true, s.refresh .coolantTemp v .frame) := by
  have clamped : clampTarget .coolantTemp v = v := clampInt_inside low high
  exact (deliverValue_named clamped (if_pos clamped) (by rfl) rfl (by simp [State.frameFeeds] : _ ↔ True)).2.2 awake trivial

/-- Settles O32: the samples are those of the hand-on that follows the record. -/
theorem torqueSampleIsApplied : Obligations.TorqueSampleIsApplied := by
  refine ⟨fun s v live awake low high => ?_, fun s v live form awake low high => ?_⟩
  · have put := putRecord_frame s .engineTorque (s.freshRecord v .frame)
    have kept := fun form => putRecord_kept (s := s) form .engineTorque (s.freshRecord v .frame)
    have delivered := deliverValue_torque (s := s) awake low high
    unfold State.refresh at delivered
    generalize s.putRecord .engineTorque (s.freshRecord v .frame) = u at put kept delivered
    have feeds := cycleHandOn_feeds u
    have frame := u.cycleHandOn_frame
    have samples : u.samples = s.samples := by rw [put]
    have power : u.supply = s.supply := by rw [put]
    have board : u.board = { s.board with engineTorque := ⟨v, .fresh, .frame, some s.supply.recorderTime, .running 0⟩ } := by
      rw [put]
      rfl
    have slots : u.slots = s.slots := by rw [put]
    have fresh : u.board.engineTorque.age = .fresh := by rw [board]
    obtain ⟨acts, rests⟩ := feeds
    rw [power, samples] at acts rests
    refine ⟨_, delivered, ?_, ?_, fun form => ?_, fun run => ?_, fun run => (acts ⟨run, fresh⟩).1, fun run x hx c hc => ?_,
      fun hold => rests fun both => by simp [hold] at both⟩
    · rw [frame, put]
    · rw [frame]
      exact board
    · exact bytesKept_trans (kept form) (bytesKept_of_mem (by rw [frame]) _)
    · rw [(acts ⟨run, fresh⟩).2.1, fittedWhere_congr slots]
    · have value := (acts ⟨run, fresh⟩).2.2 x hx c (by rw [slotAt_congr slots]; exact hc)
      unfold State.handsOn at value
      rw [fittedWhere_congr slots, show u.tune = s.tune by rw [put], board] at value
      obtain ⟨idle, box, axle⟩ := value
      have small : v.natAbs ≤ 250 := by omega
      exact ⟨idle, box, fun engaged isAxle ratio => axle engaged isAxle small ratio⟩
  · refine ⟨_, deliverValue_coolant awake low high, ?_, putRecord_kept form _ _⟩
    exact putRecord_frame s .coolantTemp (s.freshRecord v .frame)

end Sys2Proof.Proofs
end

section
/-! The cycle counter at a slot: closure, close-out, and a sample at the gate (R114 to R124). -/
namespace Sys2Proof.Proofs
open Sys2Proof Sys2Proof.Machine

/-! ### What a settled residue becomes -/

theorem mapResidue_mapResidue (f g : Residue → Residue) (b : Body) :
    (b.mapResidue f).mapResidue g = b.mapResidue (fun r => g (f r)) := by cases b <;> rfl

theorem mapResidue_id (b : Body) : b.mapResidue (fun r => r) = b := by cases b <;> rfl

/-- The slots with the residue of one of them changed. -/
def slotsResidue (slots : List (Option Component)) (slot : Nat) (f : Residue → Residue) : List (Option Component) :=
  slots.modify slot (fun o => o.map (fun c => { c with body := c.body.mapResidue f }))

theorem slotsResidue_slotsResidue (slots : List (Option Component)) (slot : Nat) (f g : Residue → Residue) :
    slotsResidue (slotsResidue slots slot f) slot g = slotsResidue slots slot (fun r => g (f r)) := by
  unfold slotsResidue
  rw [List.modify_modify_eq]
  congr 1
  funext o
  cases o <;> simp [mapResidue_mapResidue]

theorem slotsResidue_id (slots : List (Option Component)) (slot : Nat) : slotsResidue slots slot (fun r => r) = slots := by
  unfold slotsResidue
  have : (fun o : Option Component => o.map (fun c => { c with body := c.body.mapResidue (fun r => r) })) = id := by
    funext o
    cases o <;> simp [mapResidue_id]
  rw [this, List.modify_id]

theorem mapEntries_mapEntries (h : HireRegister) (f g : List DamageEntry → List DamageEntry) :
    (h.mapEntries f).mapEntries g = h.mapEntries (fun l => g (f l)) := by
  unfold HireRegister.mapEntries
  cases hire : h.hire <;> simp

theorem mapEntries_id (h : HireRegister) : h.mapEntries (fun l => l) = h := by
  unfold HireRegister.mapEntries
  split
  next hire open_ => rw [← open_]
  · rfl

/-- The increments of one slot land in its accumulator and in its delta, in order (R10). -/
theorem landDamages_lands (amounts : List Nat) (s : State) (slot : Nat) :
    (s.landDamages slot amounts).slots = slotsResidue s.slots slot (fun r => { r with damage := damageAfter amounts r.damage })
      ∧ (s.landDamages slot amounts).hires = s.hires.mapEntries (deltasAfter slot amounts) := by
  induction amounts generalizing s with
  | nil => exact ⟨(slotsResidue_id s.slots slot).symm, (mapEntries_id s.hires).symm⟩
  | cons n rest ih =>
    have step : s.landDamages slot (n :: rest) = (s.landDamage slot n).landDamages slot rest := rfl
    obtain ⟨slots, hires⟩ := ih (s.landDamage slot n)
    rw [step]
    refine ⟨slots.trans ?_, hires.trans ?_⟩
    · exact slotsResidue_slotsResidue s.slots slot _ _
    · exact mapEntries_mapEntries s.hires _ _

/-- A residue settled becomes what the gate left of it (R10, R117, R120). -/
theorem settle_becomes (s : State) (slot : Nat) (g : Gated) :
    residueBecomes s (s.settle slot g) slot s.samples g.stack g.candidate g.amounts g.drops := by
  have frame := s.settle_frame slot g
  have notice : (s.settle slot g).port.notice =
      if g.drops ≠ 0 ∧ s.resetLow = false then s.port.notice ||| 0x200 else s.port.notice := by
    unfold State.settle
    dsimp only
    rw [State.landDamages_frame]
    by_cases dropped : 0 < g.drops
    · rw [if_pos dropped]
      cases low : s.resetLow with
      | true => rw [State.setNotice_reset _ _ (by exact low), if_neg (by simp)]; rfl
      | false => rw [State.setNotice_live _ _ (by exact low), if_pos ⟨by omega, rfl⟩]; rfl
    · rw [if_neg dropped, if_neg (by omega)]
      rfl
  have lands : (s.settle slot g).slots = slotsResidue s.slots slot (fun r =>
        ⟨damageAfter g.amounts r.damage, satAdd Config.eventCeiling r.drops g.drops, g.stack, g.candidate⟩)
      ∧ (s.settle slot g).hires = s.hires.mapEntries (deltasAfter slot g.amounts) := by
    unfold State.settle
    dsimp only
    generalize settled : s.modifyBody slot _ = t
    have slots : (if 0 < g.drops then t.setNotice .residue else t).slots = t.slots := by split <;> simp
    have hires : (if 0 < g.drops then t.setNotice .residue else t).hires = t.hires := by split <;> simp
    obtain ⟨landed, entries⟩ := landDamages_lands g.amounts (if 0 < g.drops then t.setNotice .residue else t) slot
    rw [landed, entries, slots, hires, ← settled]
    exact ⟨slotsResidue_slotsResidue s.slots slot _ _, rfl⟩
  refine ⟨?_, lands.1, notice⟩
  rw [← lands.2]
  exact frame

/-! ### Closure (R118) -/

/-- The bound on the repetitions is never met: each closing takes two points. -/
theorem closeLoops_fuel (p : CycleTune) : ∀ (n m : Nat) (l : List Int), l.length ≤ n → l.length ≤ m →
    closeLoops p n l = closeLoops p m l
  | 0, m, l, hn, _ => by
    obtain rfl := List.length_eq_zero_iff.1 (Nat.le_zero.1 hn)
    cases m <;> rfl
  | n + 1, 0, l, _, hm => by
    obtain rfl := List.length_eq_zero_iff.1 (Nat.le_zero.1 hm)
    rfl
  | n + 1, m + 1, l, hn, hm => by
    match l with
    | [] | [_] | [_, _] | [_, _, _] => rfl
    | d :: c :: b :: a :: rest =>
      simp only [List.length_cons] at hn hm
      have again := closeLoops_fuel p n m (d :: a :: rest) (by simp only [List.length_cons]; omega)
        (by simp only [List.length_cons]; omega)
      simp only [closeLoops, again]

theorem closure_short (p : CycleTune) (stack : List Int) (h : stack.length < 4) : Machine.closure p stack = (stack, []) := by
  match stack with
  | [] | [_] | [_, _] | [_, _, _] => rfl
  | _ :: _ :: _ :: _ :: _ => simp only [List.length_cons] at h; omega

/-- The four-point rule at the newest four points. -/
theorem closure_step (p : CycleTune) (older : List Int) (a b c d : Int) :
    ((b - c).natAbs ≤ (a - b).natAbs ∧ (b - c).natAbs ≤ (c - d).natAbs →
      Machine.closure p (older ++ [a, b, c, d]) = ((Machine.closure p (older ++ [a, d])).1,
        2 * weightOf p (b - c).natAbs :: (Machine.closure p (older ++ [a, d])).2))
      ∧ (¬ ((b - c).natAbs ≤ (a - b).natAbs ∧ (b - c).natAbs ≤ (c - d).natAbs) →
        Machine.closure p (older ++ [a, b, c, d]) = (older ++ [a, b, c, d], [])) := by
  have reversed : (older ++ [a, b, c, d]).reverse = d :: c :: b :: a :: older.reverse := by simp
  have reversed_ : (older ++ [a, d]).reverse = d :: a :: older.reverse := by simp
  have length : (older ++ [a, b, c, d]).length = older.length + 3 + 1 := by simp
  refine ⟨fun fits => ?_, fun stops => ?_⟩
  · have again := closeLoops_fuel p (older.length + 3) (older ++ [a, d]).length (d :: a :: older.reverse)
      (by simp only [List.length_cons, List.length_reverse]; omega)
      (by simp only [List.length_cons, List.length_reverse, List.length_append, List.length_nil]; omega)
    unfold Machine.closure
    rw [reversed, reversed_, length, closeLoops, if_pos (by exact fits), again]
    rfl
  · unfold Machine.closure
    rw [reversed, length, closeLoops, if_neg (by exact stops)]
    simp

/-! ### Push -/

/-- A push with its overflow and closure is the statement's (R117, R118). -/
theorem pushAndClose_eq (p : CycleTune) (stack : List Int) (v : Int) :
    pushAndClose p stack v = ⟨(pushed p stack v).1, (pushed p stack v).2.1, (pushed p stack v).2.2⟩ := by
  unfold pushAndClose pushPoint pushed Config.stackLimit
  by_cases room : stack.length < 16
  · simp [room]
  · match stack with
    | [] | [_] => simp at room
    | p0 :: p1 :: rest =>
      simp only [room, if_false, List.tail_cons, List.getD_cons_zero, List.getD_cons_succ]
      rfl

theorem pushed_room (p : CycleTune) {stack : List Int} (v : Int) (room : stack.length < 16) :
    pushed p stack v = ((Machine.closure p (stack ++ [v])).1, (Machine.closure p (stack ++ [v])).2, 0) := if_pos room

theorem pushed_full (p : CycleTune) {stack : List Int} (v : Int) {p0 p1 : Int} {rest : List Int} (eq : stack = p0 :: p1 :: rest)
    (full : 16 ≤ stack.length) : pushed p stack v = ((Machine.closure p (p1 :: rest ++ [v])).1,
      p.weights.getD (min 15 ((p0 - p1).natAbs / p.width)) 0 :: (Machine.closure p (p1 :: rest ++ [v])).2, 1) := by
  subst eq
  exact if_neg (Nat.not_lt.2 full)

/-! ### The close-out of a slot (R124) -/

theorem closeOutSlot_eq {s : State} {slot : Nat} {c : Component} {r : Residue} (stands : s.slotAt slot = some c)
    (residue : c.body.residue = some r) (p : CycleTune) : s.closeOutSlot slot p =
      s.settle slot ⟨(closeOut p r.stack r.candidate).stack, none, (closeOut p r.stack r.candidate).amounts,
        (closeOut p r.stack r.candidate).drops⟩ := by
  unfold State.closeOutSlot
  simp only [stands, Option.bind_some, residue]

/-- Where a residue becomes another, that is what its slot holds, and every other slot is as before. -/
theorem residueBecomes_slotAt {s t : State} {slot : Nat} {samples : List SlotSample} {stack : List Int} {candidate : Option Candidate}
    {amounts : List Nat} {drops : Nat} (h : residueBecomes s t slot samples stack candidate amounts drops) (i : Nat) :
    t.slotAt i = (s.slotAt i).map (fun c => if slot = i then { c with
      body := c.body.mapResidue (fun r =>
        ⟨damageAfter amounts r.damage, satAdd Config.eventCeiling r.drops drops, stack, candidate⟩) } else c) := by
  unfold State.slotAt
  rw [h.2.1, List.getElem?_modify]
  cases s.slots[i]? with
  | none => rfl
  | some o => cases o <;> by_cases same : slot = i <;> simp [same]

theorem closeOut_none (p : CycleTune) (stack : List Int) : closeOut p stack none = ⟨[], halfCycles p stack, 0⟩ := rfl

theorem closeOut_some (p : CycleTune) (stack : List Int) (k : Candidate) : closeOut p stack (some k) =
    ⟨[], (pushed p stack k.value).2.1 ++ halfCycles p (pushed p stack k.value).1, (pushed p stack k.value).2.2⟩ := by
  unfold closeOut
  dsimp only
  rw [pushAndClose_eq]

/-- A close-out leaves what its accrual says, with an empty stack and no candidate. -/
theorem closeOutSlot_becomes {s : State} {slot : Nat} {c : Component} {r : Residue} (stands : s.slotAt slot = some c)
    (residue : c.body.residue = some r) {p : CycleTune} {amounts : List Nat} {drops : Nat}
    (h : closeOut p r.stack r.candidate = ⟨[], amounts, drops⟩) :
    residueBecomes s (s.closeOutSlot slot p) slot s.samples [] none amounts drops := by
  rw [closeOutSlot_eq stands residue, h]
  exact settle_becomes s slot ⟨[], none, amounts, drops⟩

/-- What an emptied residue without a drop means slot by slot. -/
theorem closedOut_slots {s t : State} {slot : Nat} {c : Component} {r : Residue} (stands : s.slotAt slot = some c)
    (residue : c.body.residue = some r) {amounts : List Nat} (h : residueBecomes s t slot s.samples [] none amounts 0) :
    t = { s with slots := t.slots, hires := t.hires }
      ∧ (∀ i, i ≠ slot → t.slotAt i = s.slotAt i)
      ∧ (t.slotAt slot).bind (fun d => d.body.residue) =
        some ⟨amounts.foldl (satAdd Config.damageCeiling) r.damage, min Config.eventCeiling r.drops, [], none⟩
      ∧ t.hires = s.hires.mapEntries (fun l => amounts.foldl (fun k n => addDelta slot n k) l) := by
  have slots := residueBecomes_slotAt h
  obtain ⟨frame, _, notice⟩ := h
  rw [if_neg (by simp)] at notice
  rw [notice] at frame
  refine ⟨?_, fun i other => ?_, ?_, by rw [frame]; rfl⟩
  · rw [frame]
  · rw [slots i]
    cases s.slotAt i <;> simp [other.symm]
  · rw [slots slot, stands]
    simp only [Option.map_some, if_true, Option.bind_some, residue_mapResidue, residue]
    rfl

/-- Settles O35. -/
theorem closeOutSettlesTheResidue : Obligations.CloseOutSettlesTheResidue := by
  refine ⟨fun p range => rfl, closure_short, fun p older a b c d => closure_step p older a b c d,
    fun p a b rest => ⟨rfl, rfl, rfl⟩, fun s slot c r p stands residue room => ?_,
    fun s slot c r p k stands residue full candidate => ?_⟩
  · refine ⟨_, rfl, closedOut_slots stands residue (closeOutSlot_becomes stands residue ?_)⟩
    cases r.candidate with
    | none => exact closeOut_none p r.stack
    | some k =>
      rw [closeOut_some, pushed_room p k.value room]
  · refine closeOutSlot_becomes stands residue ?_
    rw [candidate, closeOut_some, show (pushed p r.stack k.value).2.2 = 1 by unfold pushed; rw [if_neg (Nat.not_lt.2 full)]]

/-! ### A sample at its slot -/

theorem exec_sampleAtSlot {s : State} (on : s.powered = true) (slot : Fin 8) :
    exec (.sampleAtSlot slot) s = .next (sampleAtSlot slot s) := act_on on _

/-- In RUN the oldest sample of the slot is taken there. -/
theorem sampleAtSlot_run {s : State} {slot : Fin 8} {x : SlotSample} (run : s.supply.power = .run)
    (oldest : s.samples.find? (fun y => decide (y.slot = slot.val)) = some x) :
    sampleAtSlot slot s = { s with samples := s.samples.erase x }.takeSample x := by
  simp only [sampleAtSlot, oldest, run, if_true]
  rfl

theorem sampleAtSlot_rest {s : State} {slot : Fin 8} (rest : s.supply.power ≠ .run) : sampleAtSlot slot s = s := by
  unfold sampleAtSlot
  split <;> simp [rest]

theorem sampleAtSlot_none {s : State} {slot : Fin 8} (none_ : s.samples.find? (fun y => decide (y.slot = slot.val)) = none) :
    sampleAtSlot slot s = s := by
  simp only [sampleAtSlot, none_]

/-- A sample that no clamp changed passes the gate of its class. -/
theorem takeSample_gates {s : State} {x : SlotSample} {c : Component} {r : Residue} (stands : s.slotAt x.slot = some c)
    (residue : c.body.residue = some r) (plain : x.clamped = false) :
    s.takeSample x = s.settle x.slot (gate (s.tune.cycleOf c.cls) r.stack r.candidate x.value) := by
  unfold State.takeSample
  simp only [stands, residue, plain, Bool.false_eq_true, if_false]

/-- SAMPLE_AT_SLOT leaves the residue that the gate gives. -/
theorem sampleAtSlot_becomes {s : State} {slot : Fin 8} {x : SlotSample} {c : Component} {r : Residue} (on : s.powered = true)
    (run : s.supply.power = .run) (oldest : s.samples.find? (fun y => decide (y.slot = slot.val)) = some x)
    (plain : x.clamped = false) (stands : s.slotAt slot = some c) (residue : c.body.residue = some r) {stack : List Int}
    {candidate : Option Candidate} {amounts : List Nat} {drops : Nat}
    (h : gate (s.tune.cycleOf c.cls) r.stack r.candidate x.value = ⟨stack, candidate, amounts, drops⟩) :
    ∃ t : State, exec (.sampleAtSlot slot) s = .next t
      ∧ residueBecomes s t slot (s.samples.erase x) stack candidate amounts drops := by
  have place : x.slot = slot.val := by simpa using List.find?_some oldest
  refine ⟨_, exec_sampleAtSlot on slot, ?_⟩
  rw [sampleAtSlot_run run oldest, takeSample_gates (by rw [place]; exact stands) residue plain, place]
  rw [show ({ s with samples := s.samples.erase x } : State).tune = s.tune from rfl, h]
  exact settle_becomes { s with samples := s.samples.erase x } slot ⟨stack, candidate, amounts, drops⟩

/-! ### The gate, case by case -/

section
variable (p : CycleTune)

theorem gate_first (x : Int) (candidate : Option Candidate) : gate p [] candidate x = .keep [x] none := rfl

/-- One point: a candidate a gate away from it (R114). -/
theorem gate_one (l x : Int) : gate p [l] none x =
    if l + p.gate ≤ x then .keep [l] (some ⟨x, .rising⟩) else if x ≤ l - p.gate then .keep [l] (some ⟨x, .falling⟩)
    else .keep [l] none := rfl

/-- A rising candidate (R115). -/
theorem gate_rising {stack : List Int} (some_ : stack ≠ []) (v x : Int) : gate p stack (some ⟨v, .rising⟩) x =
    if v < x then .keep stack (some ⟨x, .rising⟩) else if x ≤ v - p.gate then .turn p stack v x .falling
    else .keep stack (some ⟨v, .rising⟩) := by
  unfold gate
  cases reversed : stack.reverse with
  | nil => exact absurd (List.reverse_eq_nil_iff.1 reversed) some_
  | cons a rest => cases rest <;> rfl

/-- A falling candidate (R115). -/
theorem gate_falling {stack : List Int} (some_ : stack ≠ []) (v x : Int) : gate p stack (some ⟨v, .falling⟩) x =
    if x < v then .keep stack (some ⟨x, .falling⟩) else if v + p.gate ≤ x then .turn p stack v x .rising
    else .keep stack (some ⟨v, .falling⟩) := by
  unfold gate
  cases reversed : stack.reverse with
  | nil => exact absurd (List.reverse_eq_nil_iff.1 reversed) some_
  | cons a rest => cases rest <;> rfl

/-- Two points or more and no candidate (R116). -/
theorem gate_two (older : List Int) (o l x : Int) : gate p (older ++ [o, l]) none x =
    if o < l then
      if l < x then .extend p (older ++ [o, l]) x else if x ≤ l - p.gate then .keep (older ++ [o, l]) (some ⟨x, .falling⟩)
      else .keep (older ++ [o, l]) none
    else
      if x < l then .extend p (older ++ [o, l]) x else if l + p.gate ≤ x then .keep (older ++ [o, l]) (some ⟨x, .rising⟩)
      else .keep (older ++ [o, l]) none := by
  unfold gate
  rw [show (older ++ [o, l]).reverse = l :: o :: older.reverse by simp]

theorem turn_eq (stack : List Int) (v x : Int) (direction : Direction) : Gated.turn p stack v x direction =
    ⟨(pushed p stack v).1, some ⟨x, direction⟩, (pushed p stack v).2.1, (pushed p stack v).2.2⟩ := by
  unfold Gated.turn
  rw [pushAndClose_eq]

theorem extend_eq (older : List Int) (o l x : Int) : Gated.extend p (older ++ [o, l]) x =
    ⟨(Machine.closure p (older ++ [o, x])).1, none, (Machine.closure p (older ++ [o, x])).2, 0⟩ := by
  unfold Gated.extend
  rw [show (older ++ [o, l]).dropLast ++ [x] = older ++ [o, x] by
    rw [show older ++ [o, l] = (older ++ [o]) ++ [l] by simp, List.dropLast_concat]; simp]

end

/-! ### Waiting samples taken one by one -/

theorem landDamages_withSamples (amounts : List Nat) (s : State) (v : List SlotSample) (slot : Nat) :
    (s.withSamples v).landDamages slot amounts = (s.landDamages slot amounts).withSamples v := by
  induction amounts generalizing s with
  | nil => rfl
  | cons n rest ih => exact ih (s.landDamage slot n)

theorem setNotice_withSamples (s : State) (v : List SlotSample) (n : Notice) :
    (s.withSamples v).setNotice n = (s.setNotice n).withSamples v := by
  cases low : s.resetLow with
  | true => rw [State.setNotice_reset _ n (by exact low), State.setNotice_reset s n low]
  | false => rw [State.setNotice_live _ n (by exact low), State.setNotice_live s n low]; rfl

theorem settle_withSamples (s : State) (v : List SlotSample) (slot : Nat) (g : Gated) :
    (s.withSamples v).settle slot g = (s.settle slot g).withSamples v := by
  unfold State.settle
  dsimp only
  rw [← landDamages_withSamples]
  split
  · rw [← setNotice_withSamples]
    rfl
  · rfl

/-- The taking of a sample neither reads nor moves those that wait. -/
theorem takeSample_withSamples (s : State) (v : List SlotSample) (x : SlotSample) :
    (s.withSamples v).takeSample x = (s.takeSample x).withSamples v := by
  unfold State.takeSample
  rw [show (s.withSamples v).slotAt x.slot = s.slotAt x.slot from rfl]
  split
  · split
    · dsimp only
      rw [← settle_withSamples]
      split <;> rfl
    · rfl
  · rfl

theorem filter_erase_of_find? {l : List SlotSample} {test : SlotSample → Bool} {x : SlotSample} (h : l.find? test = some x) :
    l.filter test = x :: (l.erase x).filter test
      ∧ l.filter (fun y => !test y) = (l.erase x).filter (fun y => !test y) := by
  induction l with
  | nil => cases h
  | cons y rest ih =>
    by_cases passes : test y = true
    · obtain rfl : y = x := by simpa [List.find?_cons, passes] using h
      simp [passes]
    · have later : rest.find? test = some x := by simpa [List.find?_cons, passes] using h
      have other : y ≠ x := fun e => passes (e ▸ List.find?_some later)
      obtain ⟨taken, left⟩ := ih later
      rw [List.erase_cons_tail (by simpa using other)]
      simp [passes, taken, left]

/-- The oldest waiting sample of a test is taken first. -/
theorem takeWaiting_oldest {s : State} {test : SlotSample → Bool} {x : SlotSample} (run : s.supply.power = .run)
    (oldest : s.samples.find? test = some x) :
    s.takeWaiting test = ({ s with samples := s.samples.erase x }.takeSample x).takeWaiting test := by
  obtain ⟨taken, left⟩ := filter_erase_of_find? oldest
  have frame := ({ s with samples := s.samples.erase x } : State).takeSample_frame x
  have power : ({ s with samples := s.samples.erase x }.takeSample x).supply.power = .run := by rw [frame]; exact run
  have samples : ({ s with samples := s.samples.erase x }.takeSample x).samples = s.samples.erase x := by rw [frame]
  unfold State.takeWaiting
  rw [if_pos run, if_pos power, samples, taken, left, List.foldl_cons, takeSample_withSamples]
  congr 1
  exact (congrArg (State.withSamples · _) (takeSample_withSamples s (s.samples.erase x) x)).symm

/-- Settles O36. -/
theorem samplesPassTheGate : Obligations.SamplesPassTheGate := by
  refine ⟨fun s slot x c r on oldest plain stands residue => ?_,
    fun p stack v => ⟨pushed_room p v, fun p0 p1 rest eq full => pushed_full p v eq full⟩,
    fun s slot none_ => ?_, fun s slot x on run oldest => ⟨?_, fun test => ⟨fun none_ => ?_, takeWaiting_oldest run,
      fun u rest => u.takeWaiting_rest test rest⟩⟩⟩
  · intro p g took
    refine ⟨fun rest => by rw [exec_sampleAtSlot on, sampleAtSlot_rest rest], fun run gate_ => ?_⟩
    have passes {stack : List Int} {candidate : Option Candidate} {amounts : List Nat} {drops : Nat}
        (h : gate p r.stack r.candidate x.value = ⟨stack, candidate, amounts, drops⟩) : took stack candidate amounts drops :=
      sampleAtSlot_becomes on run oldest plain stands residue h
    refine ⟨fun empty => ?_, fun l one none_ => ?_, fun v some_ candidate => ?_, fun v some_ candidate => ?_,
      fun older o l two none_ => ?_⟩
    · exact passes (by rw [empty]; rfl)
    · rw [one, none_] at passes
      refine ⟨fun above => passes ?_, fun below => passes ?_, fun low high => passes ?_⟩ <;> rw [gate_one]
      · rw [if_pos above]; rfl
      · rw [if_neg (by omega), if_pos below]; rfl
      · rw [if_neg (by omega), if_neg (by omega)]; rfl
    · rw [candidate] at passes
      refine ⟨fun follows => passes ?_, fun turns => passes ?_⟩ <;> rw [gate_rising p some_]
      · rw [if_neg (c := x.value ≤ v - p.gate) (by omega)]
        split
        · rw [max_eq_right (by omega)]; rfl
        · rw [max_eq_left (by omega)]; rfl
      · rw [if_neg (by omega), if_pos turns, turn_eq]
    · rw [candidate] at passes
      refine ⟨fun follows => passes ?_, fun turns => passes ?_⟩ <;> rw [gate_falling p some_]
      · rw [if_neg (c := v + p.gate ≤ x.value) (by omega)]
        split
        · rw [min_eq_right (by omega)]; rfl
        · rw [min_eq_left (by omega)]; rfl
      · rw [if_neg (by omega), if_pos turns, turn_eq]
    · rw [two, none_] at passes
      rw [two]
      refine ⟨fun up beyond => passes ?_, fun up back => passes ?_, fun up low high => passes ?_,
        fun down beyond => passes ?_, fun down back => passes ?_, fun down low high => passes ?_⟩ <;> rw [gate_two]
      · rw [if_pos up, if_pos beyond, extend_eq]
      · rw [if_pos up, if_neg (by omega), if_pos back]; rfl
      · rw [if_pos up, if_neg (by omega), if_neg (by omega)]; rfl
      · rw [if_neg (by omega), if_pos beyond, extend_eq]
      · rw [if_neg (by omega), if_neg (by omega), if_pos back]; rfl
      · rw [if_neg (by omega), if_neg (by omega), if_neg (by omega)]; rfl
  · show s.act (sampleAtSlot slot) = .next s
    unfold State.act
    rw [sampleAtSlot_none none_, ite_self]
  · rw [exec_sampleAtSlot on, sampleAtSlot_run run oldest]
  · exact s.takeWaiting_none test fun y hy => by simpa using List.find?_eq_none.1 none_ y hy

end Sys2Proof.Proofs
end

section
/-! Recorder time, the battery's comparisons, and the journal's timers. -/
namespace Sys2Proof.Proofs
open Sys2Proof Sys2Proof.Machine

/-! ### Recorder time (R167) -/

/-- A quantum moves a record's timer alone. -/
theorem board_get_countUp (b : Board) (q : Quantity) :
    b.countUp.get q = { b.get q with timer := (b.countUp.get q).timer } := by
  cases q <;> rfl

theorem shadow_map_countUp (o : Option Shadow) :
    (o.map Shadow.countUp).map (fun h => (h.value, h.arrivedAt)) = o.map (fun h => (h.value, h.arrivedAt)) := by
  cases o <;> rfl

theorem bumpTime_eq (n : Nat) : bumpTime n = min (2 ^ 40 - 1) (n + 1) := by
  unfold bumpTime satAdd Config.timeCeiling ceilingOf
  omega

/-- Recorder time, one quantum later, in its place in the control block. -/
theorem recorderTimeAdvance_eq {s : State} (high : s.resetLow = false) :
    recorderTimeAdvance s = (s.passQuantum.withSupply
      { s.passQuantum.supply with recorderTime := bumpTime s.supply.recorderTime }).store 0x18
        (leBytes 8 (bumpTime s.supply.recorderTime)) :=
  State.publish_live _ _ _ high

/-- Settles O55: the quantum passes on the timers, and recorder time is published. -/
theorem recorderTimeAdvances : Obligations.RecorderTimeAdvances := by
  intro s live form
  refine ⟨recorderTimeAdvance s, act_on live.1 _, ?_⟩
  have shown := memLe_store (s := s.passQuantum.withSupply
    { s.passQuantum.supply with recorderTime := bumpTime s.supply.recorderTime })
    (a := 0x18) (k := 8) (n := bumpTime s.supply.recorderTime) form (by unfold Config.memorySize; omega)
  have fits : bumpTime s.supply.recorderTime < 256 ^ 8 := by
    rw [bumpTime_eq]
    omega
  rw [recorderTimeAdvance_eq live.2]
  refine ⟨bumpTime_eq _, shown.trans (Nat.mod_eq_of_lt fits), ?_, rfl, fun q => board_get_countUp _ q,
    shadow_map_countUp _, shadow_map_countUp _, shadow_map_countUp _⟩
  exact State.store_kept _ _ _ (within 0x18 8) form (by simp [Config.memorySize]) fun c hc => by
    simpa [within] using hc

/-! ### The battery (R162 to R165) -/

theorem level_eq (v : SystemVoltage) (n : Nat) : v.level n = n * (match v with
    | .v12 => 1
    | .v24 => 2) := by
  cases v <;> simp [SystemVoltage.level, Nat.mul_comm]

theorem atMonitor_out {s : State} (out : s.supply.power ≠ .hold) (f : State → State) : s.atMonitor f = f s := if_neg out

/-- An event that changes nothing changes nothing in HOLD either. -/
theorem atMonitor_same {s : State} {f : State → State} (same : f s = s) : s.atMonitor f = s := by
  unfold State.atMonitor
  rw [same, ite_self]

/-- A dip is no crank evidence where the crank source is the line (R74). -/
theorem monitorDip_line {s : State} (source : s.tune.supply.crankSource = .line) : s.monitorDip = s :=
  atMonitor_same (if_neg (by simp [source]))

theorem evidenceEnds_other {s : State} {source : CrankSource} (other : s.monitor.evidence ≠ some source) :
    s.evidenceEnds source = s := if_neg other

/-- The low-supply warning with the journal free (R164). -/
theorem warn_free {s : State} (high : s.resetLow = false) (free : s.journalFree) :
    s.warn = { s with
        supply := { s.supply with filter := .stopped, armed := false }, journal := s.warn.journal
        port := { s.port with notice := s.port.notice ||| 0x08 } }
      ∧ s.warn.journal.startedFrom s ∧ s.warn.journal.waiting = s.journal.waiting.map (fun _ => true) := by
  unfold State.warn
  rw [State.setNotice_live _ _ (by exact high)]
  exact State.trigger_free _ free

/-- Settles O52: each comparison by its levels. -/
theorem batteryActsOnLevelsAndTimers : Obligations.BatteryActsOnLevelsAndTimers := by
  refine ⟨fun s mv on => ?_, fun s ms live => ⟨fun running free => ?_, fun running => ?_⟩⟩
  · intro twice measured
    have dip : s.dipLevel = 10500 * twice := level_eq _ _
    have recovery : s.recoveryLevel = 11000 * twice := level_eq _ _
    have warning : s.warningLevel = 9000 * twice := level_eq _ _
    have restart : s.restartLevel = 7000 * twice := level_eq _ _
    have acts (f : State → State) : s.act f = .next (f s) := act_on on f
    refine ⟨fun below dipped source => (acts _).trans ?_, fun above dipped other => (acts _).trans ?_,
      fun low high => ⟨(acts _).trans ?_, (acts _).trans ?_⟩, fun below out armed stopped => (acts _).trans ?_,
      fun below out armed => (acts _).trans ?_, fun above out armed => (acts _).trans ?_,
      fun above out armed stopped => (acts _).trans ?_, fun above hold stopped => (acts _).trans ?_,
      fun below hold => (acts _).trans ?_⟩ <;> congr 1
    · unfold batteryBelowCrankDip
      rw [dip, if_pos ⟨below, by simp [dipped]⟩, monitorDip_line (by exact source)]
      rfl
    · unfold batteryAboveDipRecovery
      rw [recovery, if_pos ⟨above, dipped⟩, show State.monitorRecovery _ = _ from atMonitor_same (evidenceEnds_other (by exact other))]
      rfl
    · unfold batteryBelowCrankDip
      rw [dip, if_neg (by omega)]
      rfl
    · unfold batteryAboveDipRecovery
      rw [recovery, if_neg (by omega)]
      rfl
    · unfold batteryBelowWarning
      rw [warning, if_pos ⟨out, below⟩, if_pos armed, stopped]
      rfl
    · unfold batteryBelowWarning
      rw [warning, if_pos ⟨out, below⟩, if_neg (by simp [armed])]
      rfl
    · unfold batteryAboveWarning
      rw [warning, if_pos ⟨out, above⟩, if_pos (.inl armed)]
      rfl
    · unfold batteryAboveWarning
      rw [warning, if_pos ⟨out, above⟩, if_neg (by simp [armed, stopped, Timer.isRunning])]
      rfl
    · unfold batteryAboveRestart
      rw [restart, if_pos hold, if_pos above, stopped]
      rfl
    · unfold batteryAboveRestart
      rw [restart, if_pos hold, if_neg (by omega)]
      rfl
  · unfold exec execWarningFilterExpiry
    refine ⟨s.warn, ?_, warn_free live.2 free⟩
    rw [act_on live.1]
    unfold warningFilterExpiry
    rw [running]
    rfl
  · unfold exec execRearmTimerExpiry
    rw [act_on live.1]
    unfold rearmTimerExpiry
    rw [running]
    rfl

end Sys2Proof.Proofs
end

section
/-! The journal's timers, and the end of a page write. -/
namespace Sys2Proof.Proofs
open Sys2Proof Sys2Proof.Machine

/-! ### Checkpoints that start, and those that cannot (R169, R171) -/

theorem trigger_starts {s : State} (idle : s.journal.writing = none) (out : s.supply.power ≠ .hold) :
    s.trigger = s.startCheckpoint := by
  simp [State.trigger, idle, out]

theorem startCheckpoint_free {s : State} (free : s.journalFree) :
    s.startCheckpoint = { s with journal := s.startCheckpoint.journal } ∧ s.startCheckpoint.journal.startedFrom s
      ∧ s.startCheckpoint.journal.waiting = s.journal.waiting.map (fun _ => true) := by
  rw [← trigger_starts free.1 free.2.1]
  exact s.trigger_free free

/-- With the sequence exhausted no page is written (R171). -/
theorem startCheckpoint_spent {s : State} (high : s.resetLow = false) (idle : s.journal.writing = none)
    (spent : 2 ^ 32 - 1 ≤ s.journal.newestSequence) :
    s.startCheckpoint = { s with
      journal := s.givenUp (s.journal.waiting.map (fun _ => false))
      port := { s.port with notice := s.port.notice ||| 0x04 } } := by
  unfold State.startCheckpoint lastSequence ceilingOf
  rw [if_neg (by omega)]
  unfold State.abandonWithRetry
  rw [State.setNotice_live _ _ (by exact high)]
  simp only [Journal.abandon, State.givenUp, State.withJournal, Option.map_map, idle]
  rfl

/-- Settles O56: both timers by the checkpoint they start. -/
theorem journalTimersStartCheckpoints : Obligations.JournalTimersStartCheckpoints := by
  intro s ms live
  have acts (f : State → State) : s.act f = .next (f s) := act_on live.1 f
  have period (run : s.supply.power = .run) (running : s.journal.period = .running ms) : exec .periodTimerExpiry s = .next
      (s.withJournal { s.journal with period := .running (1000 * s.tune.period) }).trigger := by
    unfold exec execPeriodTimerExpiry periodTimerExpiry
    rw [acts, if_pos ⟨run, by rw [running]; rfl⟩]
  have retry (running : s.journal.retry = .running ms) (idle : s.journal.writing = none) (out : s.supply.power ≠ .hold) :
      exec .retryTimerExpiry s = .next s.startCheckpoint := by
    unfold exec execRetryTimerExpiry retryTimerExpiry
    rw [acts, if_pos ⟨by rw [running]; rfl, by rw [idle]; rfl, out⟩]
  refine ⟨fun run running free => ?_, fun run running busy => ?_, fun running free => ?_, fun running idle out spent => ?_⟩
  · exact ⟨_, period run running, State.trigger_free _ free⟩
  · rw [period run running, State.trigger_busy _ (.inl (by exact busy))]
    rfl
  · exact ⟨_, retry running free.1 free.2.1, startCheckpoint_free free⟩
  · rw [retry running idle out, startCheckpoint_spent live.2 idle (Nat.le_of_eq spent.symm)]
    rfl

/-! ### The end of a page write (R170, R171) -/

theorem exec_checkpointWriteDone {s : State} (on : s.powered = true) {w : Writing} (writing : s.journal.writing = some w)
    (verified : Bool) :
    exec (.checkpointWriteDone verified) s = .next (if verified then s.completeCheckpoint w else s.failPage w) := by
  change execCheckpointWriteDone verified s = _
  unfold execCheckpointWriteDone
  rw [act_on on]
  simp only [writing]

/-- The journal with a page as the newest, whole (R170). -/
def Journal.completed (j : Journal) (w : Writing) : Journal :=
  { j with
    pages := j.pages.set w.page (.whole w.sequence w.staging), newestPage := some w.page
    newestSequence := w.sequence, lastTime := w.staging.recorderTime, writing := none }

theorem pageNewest_eq {s : State} (high : s.resetLow = false) (w : Writing) :
    s.pageNewest w = ((s.withJournal (Journal.completed s.journal w)).store 0x14 (leBytes 4 w.sequence)).store 0x20
      (leBytes 8 w.staging.recorderTime) := by
  unfold State.pageNewest State.publishJournal
  rw [State.publish_live _ _ _ (by rw [publish_resetLow]; exact high), State.publish_live _ _ _ (by exact high)]
  rfl

theorem pageNewest_frame {s : State} (high : s.resetLow = false) (w : Writing) :
    s.pageNewest w = { s with
      journal := Journal.completed s.journal w, port := { s.port with mem := (s.pageNewest w).port.mem } } := by
  rw [pageNewest_eq high]
  rfl

theorem pageNewest_kept {s : State} (form : s.port.mem.wf) (high : s.resetLow = false) (w : Writing) :
    (s.pageNewest w).port.mem.wf ∧ bytesKept s (s.pageNewest w) (fun a => within 0x14 4 a ∨ within 0x20 8 a) := by
  rw [pageNewest_eq high]
  have first := State.store_mem_wf (s.withJournal (Journal.completed s.journal w)) 0x14 (leBytes 4 w.sequence) form
  have kept := State.store_kept (s.withJournal (Journal.completed s.journal w)) 0x14 (leBytes 4 w.sequence) (within 0x14 4)
    form (by simp [Config.memorySize]) fun c hc => by simpa [within] using hc
  have kept_ := State.store_kept _ 0x20 (leBytes 8 w.staging.recorderTime) (within 0x20 8)
    first (by simp [Config.memorySize]) fun c hc => by simpa [within] using hc
  exact ⟨State.store_mem_wf _ _ _ first, bytesKept_trans (bytesKept_mono kept fun _ => .inl) (bytesKept_mono kept_ fun _ => .inr)⟩

/-- The newest page is shown with its sequence and the time of its snapshot (R168). -/
theorem pageNewest_shown {s : State} (form : s.port.mem.wf) (high : s.resetLow = false) (w : Writing) :
    memLe (s.pageNewest w).port.mem 4 0x14 = w.sequence % 2 ^ 32
      ∧ memLe (s.pageNewest w).port.mem 8 0x20 = w.staging.recorderTime % 2 ^ 64 := by
  rw [pageNewest_eq high]
  have first := State.store_mem_wf (s.withJournal (Journal.completed s.journal w)) 0x14 (leBytes 4 w.sequence) form
  have kept := State.store_kept _ 0x20 (leBytes 8 w.staging.recorderTime) (within 0x20 8)
    first (by simp [Config.memorySize]) fun c hc => by simpa [within] using hc
  have still := memLe_kept (k := 4) (a := 0x14) kept (by unfold Config.memorySize; omega) fun i hi => by
    unfold within
    omega
  exact ⟨still.trans (memLe_store form (by unfold Config.memorySize; omega)),
    memLe_store first (by unfold Config.memorySize; omega)⟩

theorem nextPage_eq (page : Nat) : nextPage page = if page < 63 then page + 1 else 0 := by
  unfold nextPage Config.pageCount
  exact if_congr (by omega) rfl rfl

/-- The state once the slip attached to the checkpoint, if there is one, is released (R170). -/
def releasedAfter (t : State) (w : Writing) : State :=
  if t.journal.waiting = some true then t.releaseSlip w.sequence else t

/-- A completed checkpoint: the newest page and CHECKPOINT, then the release, then the checkpoint that pends (R170). -/
theorem completeCheckpoint_start {s : State} (high : s.resetLow = false) (w : Writing) :
    ∃ t : State, s.completeCheckpoint w =
        (if (releasedAfter t w).journal.another ∧ (releasedAfter t w).journal.writing.isNone
            ∧ (releasedAfter t w).supply.power ≠ .hold then (releasedAfter t w).startCheckpoint else releasedAfter t w)
      ∧ t = { s with
          journal := Journal.completed s.journal w
          port := { s.port with mem := (s.pageNewest w).port.mem, notice := s.port.notice ||| 2 } } := by
  refine ⟨_, rfl, ?_⟩
  have frame := pageNewest_frame high w
  generalize s.pageNewest w = t at frame ⊢
  rw [State.setNotice_live _ _ (by rw [frame]; exact high), frame]
  rfl

/-- Settles O57: completion, the retry on the next page, and abandonment. -/
theorem pageWriteEnds : Obligations.PageWriteEnds := by
  intro s live
  refine ⟨fun verified idle => ?_, fun w writing => ⟨fun form unattached alone sequence time => ?_, fun first more => ?_,
    fun second => ?_⟩⟩
  · change execCheckpointWriteDone verified s = _
    unfold execCheckpointWriteDone
    rw [act_on live.1]
    simp only [idle]
  · obtain ⟨t, eq, frame⟩ := completeCheckpoint_start live.2 w
    obtain ⟨wf, kept⟩ := pageNewest_kept form live.2 w
    obtain ⟨sequence_, time_⟩ := pageNewest_shown form live.2 w
    rw [exec_checkpointWriteDone live.1 writing, if_pos rfl, eq]
    have done : releasedAfter t w = t := if_neg (by rw [frame]; exact unattached)
    rw [done, if_neg (by rw [frame]; simp [Journal.completed, alone])]
    have memory : t.port.mem = (s.pageNewest w).port.mem := by rw [frame]
    rw [← memory] at sequence_ time_
    refine ⟨t, rfl, ?_, sequence_.trans (Nat.mod_eq_of_lt sequence), time_.trans (Nat.mod_eq_of_lt (by omega)), fun a inside out =>
      (byteAt_congr memory a).trans (kept a inside out)⟩
    rw [frame]
    rfl
  · rw [exec_checkpointWriteDone live.1 writing, if_neg nofun]
    unfold State.failPage lastSequence ceilingOf
    rw [if_neg (by simp [first]; omega), State.setNotice_live _ _ (by exact live.2), ← nextPage_eq]
    rfl
  · rw [exec_checkpointWriteDone live.1 writing, if_neg nofun]
    unfold State.failPage State.abandonWithRetry
    rw [if_pos (.inl second), State.setNotice_live _ _ (by exact live.2)]
    rfl

end Sys2Proof.Proofs
end

section
/-! The release of a slip by a verified page. -/
namespace Sys2Proof.Proofs
open Sys2Proof Sys2Proof.Machine

theorem ownedByDevice_kept {s t : State} {changed : Nat → Prop} (kept : bytesKept s t changed) {i : Nat} (ring : i < 64)
    (out : ∀ j, j < 16 → ¬ changed (slipAddress i + j)) : t.ownedByDevice i = s.ownedByDevice i := by
  have first := slip_kept kept ring out (j := 0) (by decide)
  rw [Nat.add_zero] at first
  unfold State.ownedByDevice
  rw [first]

/-- What an attached slip is returned with (R150, R151). -/
def releaseResult (h : Held) (sequence : Nat) : Result :=
  ⟨.done, if h.slip.kind = .save then sequence % 65536 else h.detail, h.used⟩

theorem releaseSlip_eq {s : State} {h : Held} (holds : s.scanner.held = some h) (sequence : Nat) :
    s.releaseSlip sequence =
      (let t := (s.withJournal { s.journal with waiting := none }).giveBack h.slip (releaseResult h sequence)
      readSlips readingLimit (t.setScanner { t.scanner with state := .scanning })) := by
  unfold State.releaseSlip
  simp only [holds]
  rfl

/-- A release with nothing handed over next: the slip is returned and the scanner goes IDLE (R148, R150). -/
theorem releaseSlip_idle {s : State} (form : s.port.mem.wf) (high : s.resetLow = false) (ring : s.ringLegal) {h : Held}
    (holds : s.scanner.held = some h) (good : h.slip.referencesGood = true) (used : h.used ≤ h.slip.outLength)
    (host : s.nextCursor h.slip.ringEnd = s.scanner.cursor ∨ s.ownedByDevice (s.nextCursor h.slip.ringEnd) = false)
    (sequence : Nat) :
    let t := s.releaseSlip sequence
    let a := slipAddress s.scanner.cursor
    t = { s with
        scanner := { s.scanner with
          state := .idle, held := none, cursor := s.nextCursor h.slip.ringEnd, nudgePending := false }
        journal := { s.journal with waiting := none }
        port := { s.port with mem := t.port.mem, notice := t.port.notice } }
      ∧ t.byteAt a = 0 ∧ t.byteAt (a + 3) = BitVec.ofNat 8 Status.done.code
      ∧ memLe t.port.mem 2 (a + 12) = h.used % 65536
      ∧ memLe t.port.mem 2 (a + 14) = (if h.slip.kind = .save then sequence else h.detail) % 65536
      ∧ t.port.notice = if h.slip.notify = true then s.port.notice ||| 1 else s.port.notice := by
  rw [releaseSlip_eq holds]
  dsimp only
  have frame := (s.withJournal { s.journal with waiting := none }).giveBack_frame h.slip (releaseResult h sequence)
  obtain ⟨owner, code, out, detail⟩ := giveBack_fields (s := s.withJournal { s.journal with waiting := none }) form ring.2
    h.slip (releaseResult h sequence)
  have wf := giveBack_wf (s := s.withJournal { s.journal with waiting := none }) form h.slip (releaseResult h sequence)
  have notice := giveBack_notice (s := s.withJournal { s.journal with waiting := none }) high h.slip (releaseResult h sequence)
  have next := giveBack_host (s := s.withJournal { s.journal with waiting := none }) (r := releaseResult h sequence) form ring good
    used (nextCursor_lt h.slip.ringEnd ring) host
  generalize (s.withJournal { s.journal with waiting := none }).giveBack h.slip (releaseResult h sequence) = g at *
  have scanning := g.setScanner_frame { g.scanner with state := .scanning }
  have wf_ := setScanner_wf wf { g.scanner with state := .scanning }
  have kept := setScanner_kept wf { g.scanner with state := .scanning }
  generalize g.setScanner { g.scanner with state := .scanning } = v at *
  have cursor : v.scanner.cursor = s.nextCursor h.slip.ringEnd := by rw [scanning, frame]; rfl
  have unowned : v.ownedByDevice v.scanner.cursor = false := by
    rw [cursor, ownedByDevice_kept kept (nextCursor_lt h.slip.ringEnd ring) fun _ _ => scannerBytes_below_ring]
    exact next
  rw [show readingLimit = 64 + 2 from rfl, readSlips_host 64 unowned]
  have idle := v.setScanner_frame { v.scanner with state := .idle, nudgePending := false }
  have kept_ := bytesKept_trans kept (setScanner_kept wf_ { v.scanner with state := .idle, nudgePending := false })
  have notice_ : (v.setScanner { v.scanner with state := .idle, nudgePending := false }).port.notice = g.port.notice := by
    rw [idle, scanning]
  generalize v.setScanner { v.scanner with state := .idle, nudgePending := false } = t at *
  have slip {j : Nat} (hj : j < 16) := slip_kept kept_ ring.2 (fun _ _ => scannerBytes_below_ring) hj
  refine ⟨?_, (slip (j := 0) (by decide)).trans owner, (slip (by decide)).trans code, ?_, ?_, notice_.trans notice⟩
  · rw [idle, scanning, frame]
    rfl
  · exact (memLe_slip_kept kept_ ring.2 (by decide)).trans out
  · refine (memLe_slip_kept kept_ ring.2 (by decide)).trans (detail.trans ?_)
    unfold releaseResult
    dsimp only
    split
    · exact Nat.mod_mod _ _
    · rfl

/-- Settles O58: the page is published, and its slip released. -/
theorem verifiedPageReleasesTheSlip : Obligations.VerifiedPageReleasesTheSlip := by
  intro s w h live form ring writing alone attached state holds quiet good used next a host
  obtain ⟨t, eq, frame⟩ := completeCheckpoint_start live.2 w
  obtain ⟨wf, kept⟩ := pageNewest_kept form live.2 w
  have memory : t.port.mem = (s.pageNewest w).port.mem := by rw [frame]
  have kept_ : bytesKept s t (fun a => within 0x14 4 a ∨ within 0x20 8 a) := fun a inside out =>
    (byteAt_congr memory a).trans (kept a inside out)
  have owner : t.ownedByDevice next = s.ownedByDevice next :=
    ownedByDevice_kept kept_ (nextCursor_lt h.slip.ringEnd ring) fun j _ out => by
      unfold within slipAddress Config.ringBase at out
      omega
  have release : releasedAfter t w = t.releaseSlip w.sequence := if_pos (by rw [frame]; exact attached)
  obtain ⟨frame_, returned, code, out, detail, notice⟩ := releaseSlip_idle (s := t) (by rw [memory]; exact wf)
    (by rw [frame]; exact live.2) (by rw [frame]; exact ring) (by rw [frame]; exact holds) good used
    (by
      have cursor : t.nextCursor h.slip.ringEnd = next := by rw [frame]; rfl
      rw [cursor, owner, frame]
      exact host) w.sequence
  rw [exec_checkpointWriteDone live.1 writing, if_pos rfl, eq, release]
  generalize t.releaseSlip w.sequence = v at frame_ returned code out detail notice
  have pends : v.journal.another = false := by rw [frame_, frame]; exact alone
  rw [if_neg fun h => Bool.false_ne_true (pends.symm.trans h.1)]
  have cursor : t.scanner.cursor = s.scanner.cursor := by rw [frame]
  rw [cursor] at returned code out detail
  refine ⟨v, rfl, ?_, ?_, ?_, ?_, ?_, returned, code, out, detail, ?_⟩
  · rw [frame_, frame]
  · rw [frame_, frame]
    simp only [quiet]
    rfl
  · rw [frame_]
  · rw [frame_, frame]
    rfl
  · rw [frame_, frame]
    rfl
  · rw [notice, frame]
    dsimp only
    split
    · rw [BitVec.or_assoc]
      rfl
    · rfl

end Sys2Proof.Proofs
end

section
/-! The control block written whole (R142, 12.3), and the pin reset. -/
namespace Sys2Proof.Proofs
open Sys2Proof Sys2Proof.Machine

/-! ### Several stores at places apart -/

/-- Stores one after another. -/
def storeAll (fields : List (Nat × List Byte)) (s : State) : State := fields.foldl (fun t f => t.store f.1 f.2) s

/-- Two fields have no address in common. -/
def FieldsApart (f g : Nat × List Byte) : Prop := f.1 + f.2.length ≤ g.1 ∨ g.1 + g.2.length ≤ f.1

theorem storeAll_frame (fields : List (Nat × List Byte)) (s : State) :
    storeAll fields s = { s with port := { s.port with mem := (storeAll fields s).port.mem } } := by
  induction fields generalizing s with
  | nil => rfl
  | cons f rest ih => exact ih (s.store f.1 f.2)

theorem storeAll_wf (fields : List (Nat × List Byte)) {s : State} (form : s.port.mem.wf) : (storeAll fields s).port.mem.wf := by
  induction fields generalizing s with
  | nil => exact form
  | cons f rest ih => exact ih (State.store_mem_wf s f.1 f.2 form)

theorem storeAll_kept {fields : List (Nat × List Byte)} {s : State} (form : s.port.mem.wf)
    (fits : ∀ f ∈ fields, f.1 + f.2.length ≤ Config.memorySize) :
    bytesKept s (storeAll fields s) (fun a => ∃ f ∈ fields, within f.1 f.2.length a) := by
  induction fields generalizing s with
  | nil => exact fun _ _ _ => rfl
  | cons f rest ih =>
    have first := State.store_kept s f.1 f.2 (within f.1 f.2.length) form (fits f (.head _)) fun c hc => hc
    have others := ih (State.store_mem_wf s f.1 f.2 form) fun g hg => fits g (.tail _ hg)
    exact bytesKept_trans (bytesKept_mono first fun _ h => ⟨f, .head _, h⟩)
      (bytesKept_mono others fun _ ⟨g, hg, h⟩ => ⟨g, .tail _ hg, h⟩)

/-- Each field reads as it was stored. -/
theorem storeAll_byteAt {fields : List (Nat × List Byte)} {s : State} (form : s.port.mem.wf)
    (fits : ∀ f ∈ fields, f.1 + f.2.length ≤ Config.memorySize) (apart : fields.Pairwise FieldsApart)
    {f : Nat × List Byte} (among : f ∈ fields) {i : Nat} (hi : i < f.2.length) :
    (storeAll fields s).byteAt (f.1 + i) = f.2.getD i 0 := by
  induction fields generalizing s with
  | nil => cases among
  | cons g rest ih =>
    obtain ⟨others, apart⟩ := List.pairwise_cons.1 apart
    have wf := State.store_mem_wf s g.1 g.2 form
    have fits_ : ∀ f ∈ rest, f.1 + f.2.length ≤ Config.memorySize := fun f hf => fits f (.tail _ hf)
    rcases List.mem_cons.1 among with rfl | later
    · have inside := fits f (.head _)
      have kept := storeAll_kept wf fits_ (f.1 + i) (by omega) fun ⟨h, hh, low, high⟩ => by
        rcases others h hh with _ | _ <;> omega
      refine kept.trans ((byteAt_store form inside (by omega)).trans ?_)
      rw [if_pos (by omega), Nat.add_sub_cancel_left]
    · exact ih wf fits_ apart later

theorem memLe_of_bytes {t : State} {a k n : Nat} (h : ∀ i, i < k → t.byteAt (a + i) = (leBytes k n).getD i 0) :
    memLe t.port.mem k a = n % 256 ^ k := memLe_of_leBytes h

/-- The byte of a list of fields of the same length. -/
theorem flatMap_getD {α : Type} {f : α → List Byte} {n : Nat} (length : ∀ x, (f x).length = n) (l : List α) {i j : Nat}
    (hi : i < l.length) (hj : j < n) : (l.flatMap f).getD (n * i + j) 0 = (f l[i]).getD j 0 := by
  induction l generalizing i with
  | nil => simp at hi
  | cons x rest ih =>
    rw [List.flatMap_cons]
    cases i with
    | zero =>
      rw [Nat.mul_zero, Nat.zero_add, List.getD_append _ _ _ _ (by rw [length]; exact hj)]
      rfl
    | succ i =>
      rw [List.getD_append_right _ _ _ _ (by rw [length, Nat.mul_succ]; omega), length,
        show n * (i + 1) + j - n = n * i + j by rw [Nat.mul_succ]; omega]
      exact ih (by simpa using hi)

/-- A record's twelve bytes read as its four fields (12.3). -/
theorem record_reads {t : State} {a : Nat} {r : QRecord} (h : ∀ i, i < 12 → t.byteAt (a + i) = r.bytes.getD i 0) :
    memLe t.port.mem 2 a = (r.value % 65536).toNat ∧ t.byteAt (a + 2) = BitVec.ofNat 8 r.age.code
      ∧ t.byteAt (a + 3) = BitVec.ofNat 8 r.source.code ∧ memLe t.port.mem 8 (a + 4) = (r.sampledAt.getD 0) % 2 ^ 64 := by
  have value := memLe_of_bytes (t := t) (a := a) (k := 2) (n := (r.value % 65536).toNat) fun i hi => by
    rw [h i (by omega)]
    unfold QRecord.bytes
    rw [List.append_assoc, List.append_assoc, List.getD_append _ _ _ _ (by simpa [leInt16] using hi)]
    rfl
  have time := memLe_of_bytes (t := t) (a := a + 4) (k := 8) (n := r.sampledAt.getD 0) fun i hi => by
    rw [Nat.add_assoc, h (4 + i) (by omega)]
    unfold QRecord.bytes
    rw [List.getD_append_right _ _ _ _ (by simp [leInt16]), show (leInt16 r.value ++ leBytes 1 r.age.code
      ++ leBytes 1 r.source.code).length = 4 by simp [leInt16], Nat.add_sub_cancel_left]
  exact ⟨value.trans (Nat.mod_eq_of_lt (by omega)), h 2 (by decide), h 3 (by decide), time⟩

/-! ### The control block -/

/-- The fields of the control block, in the order in which they are written. -/
def blockFields (s : State) : List (Nat × List Byte) :=
  [(0x00, identBytes), (0x04, leBytes 1 s.supply.power.code), (0x05, leBytes 1 s.monitor.state.code),
    (0x06, leBytes 1 s.depot.state.code ++ [flagByte s.depot.lockout]), (0x08, [flagByte s.hires.hire.isSome]),
    (0x10, leBytes 4 s.hires.shownNumber), (0x09, leBytes 1 s.scanner.state.code ++ leBytes 1 s.scanner.cursor),
    (0x0B, leBytes 1 s.port.cause.code), (0x0C, leBytes 1 s.journal.outcome.code), (0x14, leBytes 4 s.journal.newestSequence),
    (0x20, leBytes 8 s.journal.lastTime), (0x18, leBytes 8 s.supply.recorderTime),
    (0x28, s.intake.tallies.inOrder.flatMap (leBytes 4)), (0x50, s.board.bytes)]

theorem publishAll_eq {s : State} (high : s.resetLow = false) : s.publishAll = storeAll (blockFields s) s := by
  simp [State.publishAll, State.publishIdentity, State.publishPower, State.publishStart, State.publishDepot, State.publishHire,
    State.publishScanner, State.publishCause, State.publishOutcome, State.publishJournal, State.publishTime,
    State.publishTallies, State.publishMirror, State.publish, high, storeAll, blockFields]
  rfl

theorem tallyBytes_length (t : Tallies) : (t.inOrder.flatMap (leBytes 4)).length = 28 := by
  simp [Tallies.inOrder]

theorem boardBytes_length (b : Board) : b.bytes.length = 96 := by
  simp [Board.bytes, allQuantities]

theorem blockFields_apart (s : State) : (blockFields s).Pairwise FieldsApart := by
  simp [blockFields, FieldsApart, identBytes, Tallies.inOrder, boardBytes_length]

theorem blockFields_fit (s : State) : ∀ f ∈ blockFields s, f.1 + f.2.length ≤ Config.memorySize := by
  simp [blockFields, identBytes, Tallies.inOrder, boardBytes_length, Config.memorySize]

theorem blockFields_within (s : State) {a : Nat} (h : ∃ f ∈ blockFields s, within f.1 f.2.length a) : controlBlockBytes a := by
  simp only [blockFields, identBytes, within, List.mem_cons, List.not_mem_nil, or_false, exists_eq_or_imp, exists_eq_left,
    List.length_append, leBytes_length, List.length_cons, List.length_nil, tallyBytes_length, boardBytes_length] at h
  unfold controlBlockBytes within
  omega

/-- The control block written whole shows every field, and no other byte changes (R142). -/
theorem publishAll_shown {s : State} (form : s.port.mem.wf) (high : s.resetLow = false) :
    s.publishAll.controlBlockShown ∧ s.publishAll.port.mem.wf ∧ bytesKept s s.publishAll controlBlockBytes := by
  have frame := storeAll_frame (blockFields s) s
  have byte {a : Nat} {l : List Byte} (among : (a, l) ∈ blockFields s) (i : Nat) (hi : i < l.length) :
      (storeAll (blockFields s) s).byteAt (a + i) = l.getD i 0 :=
    storeAll_byteAt form (blockFields_fit s) (blockFields_apart s) among hi
  have field {a k n : Nat} (among : (a, leBytes k n) ∈ blockFields s) :
      memLe (storeAll (blockFields s) s).port.mem k a = n % 256 ^ k :=
    memLe_of_bytes fun i hi => byte among i (by simpa using hi)
  rw [publishAll_eq high]
  refine ⟨?_, storeAll_wf _ form, bytesKept_mono (storeAll_kept form (blockFields_fit s)) fun _ => blockFields_within s⟩
  generalize storeAll (blockFields s) s = t at *
  have one {a : Nat} {l : List Byte} (among : (a, l) ∈ blockFields s) (i : Nat) (hi : i < l.length) {c : Nat} {v : Byte}
      (at_ : c = a + i) (reads : l.getD i 0 = v) : t.byteAt c = v := by
    rw [at_, byte among i hi, reads]
  have ident := one (a := 0) (l := identBytes) (by simp [blockFields])
  have power := one (a := 4) (l := leBytes 1 s.supply.power.code) (by simp [blockFields]) 0 (by simp) rfl rfl
  have start := one (a := 5) (l := leBytes 1 s.monitor.state.code) (by simp [blockFields]) 0 (by simp) rfl rfl
  have depot := one (a := 6) (l := leBytes 1 s.depot.state.code ++ [flagByte s.depot.lockout]) (by simp [blockFields])
  have hire := one (a := 8) (l := [flagByte s.hires.hire.isSome]) (by simp [blockFields]) 0 (by simp) rfl rfl
  have number := field (a := 0x10) (k := 4) (n := s.hires.shownNumber) (by simp [blockFields])
  have scanner := one (a := 9) (l := leBytes 1 s.scanner.state.code ++ leBytes 1 s.scanner.cursor) (by simp [blockFields])
  have cause := one (a := 0x0B) (l := leBytes 1 s.port.cause.code) (by simp [blockFields]) 0 (by simp) rfl rfl
  have outcome := one (a := 0x0C) (l := leBytes 1 s.journal.outcome.code) (by simp [blockFields]) 0 (by simp) rfl rfl
  have sequence := field (a := 0x14) (k := 4) (n := s.journal.newestSequence) (by simp [blockFields])
  have last := field (a := 0x20) (k := 8) (n := s.journal.lastTime) (by simp [blockFields])
  have time := field (a := 0x18) (k := 8) (n := s.supply.recorderTime) (by simp [blockFields])
  have tallies := byte (a := 0x28) (l := s.intake.tallies.inOrder.flatMap (leBytes 4)) (by simp [blockFields])
  have mirror := byte (a := 0x50) (l := s.board.bytes) (by simp [blockFields])
  unfold State.controlBlockShown
  refine ⟨ident 0 (by decide) rfl rfl, ident 1 (by decide) rfl rfl, ident 2 (by decide) rfl rfl,
    ident 3 (by decide) rfl rfl, ?_⟩
  rw [frame]
  refine ⟨power, start, depot 0 (by simp) rfl rfl, depot 1 (by simp) rfl rfl, ?_,
    scanner 0 (by simp) rfl rfl, scanner 1 (by simp) rfl rfl, ?_, outcome, ?_, sequence, time, last,
    fun k => ?_, fun q => ?_⟩
  · refine hire.trans ?_
    cases s.hires.hire <;> rfl
  · refine cause.trans ?_
    cases s.port.cause <;> rfl
  · refine number.trans ?_
    cases h : s.hires.hire <;> simp [HireRegister.shownNumber, h]
  · have index : k.index < 7 := by cases k <;> decide
    have place : k.index < s.intake.tallies.inOrder.length := index
    have value : s.intake.tallies.inOrder[k.index] = s.intake.tallies.get k := by cases k <;> rfl
    refine memLe_of_bytes fun i hi => ?_
    have := tallies (4 * k.index + i) (by rw [tallyBytes_length]; omega)
    rw [flatMap_getD (leBytes_length 4) _ place hi, value] at this
    rw [Nat.add_assoc]
    exact this
  · have place : quantityIndex q < allQuantities.length := quantityIndex_lt q
    have value : allQuantities[quantityIndex q] = q := by cases q <;> rfl
    have record {i : Nat} (hi : i < 12) : t.byteAt (0x50 + 12 * quantityIndex q + i) = (s.board.get q).bytes.getD i 0 := by
      have := mirror (12 * quantityIndex q + i) (by rw [boardBytes_length]; have := quantityIndex_lt q; omega)
      unfold Board.bytes at this
      rw [flatMap_getD (fun q => QRecord.bytes_length _) _ place hi, value] at this
      rw [Nat.add_assoc]
      exact this
    exact record_reads fun i hi => record hi

/-- Settles O59: the reset by its definition, the release by the control block written whole. -/
theorem pinResetClearsThePort : Obligations.PinResetClearsThePort := by
  intro s on
  refine ⟨fun high => ?_, fun low form => ?_⟩
  · unfold exec execPinReset
    rw [act_on on, high]
    rfl
  · have frame := publishAll_frame ((s.withResetLow false).withPort { s.port with cause := .pin })
    obtain ⟨shown, _, kept⟩ := publishAll_shown (s := (s.withResetLow false).withPort { s.port with cause := .pin }) form rfl
    refine ⟨s.pinRelease, ?_, frame, shown, ?_, kept⟩
    · unfold exec execPinResetRelease
      rw [act_on on, low]
      rfl
    · obtain ⟨_, _, _, _, _, _, _, _, _, _, _, cause, _⟩ := shown
      refine cause.trans ?_
      rw [frame]
      rfl

end Sys2Proof.Proofs
end

section
/-! The entry to HOLD at every block (R165), the loss of supply, and power-on with its restore (R171, R172). -/
namespace Sys2Proof.Proofs
open Sys2Proof Sys2Proof.Machine

/-! ### The entry to HOLD (R165) -/

/-- A change of the sensor supply that is no leaving of ON with windows in progress (R46). -/
theorem setSensor_still {s : State} {v : Sensor} (still : ¬ (s.sensor.state = .on ∧ v.state ≠ .on ∧ s.pulse.windows = true)) :
    s.setSensor v = { s with sensor := v } := if_neg still

theorem sensorRest_eq {s : State} (abandoned : s.pulse.windows = false) :
    s.sensorRest = { s with
      sensor := if s.sensor.state = .lockedOff then s.sensor else ⟨.off, s.sensor.retry, .stopped, .stopped⟩ } := by
  unfold State.sensorRest
  split
  · rfl
  · exact setSensor_still fun h => Bool.false_ne_true (abandoned.symm.trans h.2.2)

/-- The entry to HOLD at every block but the monitor and the journal. -/
def heldBase (s : State) : State :=
  { s.store 0x04 [2] with
    supply := { s.supply with
      power := .hold, prior := s.supply.power, filter := .stopped, rearm := .stopped, dwell := .stopped
      doze := s.supply.doze.freeze }
    duty := { s.duty with quantumTimer := .stopped }
    scanner := { s.scanner with selfPoll := .stopped }
    pulse := { s.pulse.each (fun c => { c with edges := 0, mark := false }) with windows := false }
    sensor := if s.sensor.state = .lockedOff then s.sensor else ⟨.off, s.sensor.retry, .stopped, .stopped⟩
    port := { (s.store 0x04 [2]).port with notice := s.port.notice ||| 0x10 } }

theorem enterHold_eq {s : State} (high : s.resetLow = false) : s.enterHold = (heldBase s).monitorEnterHold.journalEnterHold := by
  unfold State.enterHold State.setPower State.publishPower
  dsimp only
  rw [State.publish_live _ _ _ (by exact high), State.setNotice_live _ _ (by exact high), sensorRest_eq (by rfl)]
  rfl

theorem heldBase_wf {s : State} (form : s.port.mem.wf) : (heldBase s).port.mem.wf := State.store_mem_wf s 0x04 [2] form

theorem heldBase_shown {s : State} (form : s.port.mem.wf) :
    (heldBase s).byteAt 0x04 = 2 ∧ bytesKept s (heldBase s) (fun a => a = 0x04) := by
  have first := byteAt_store (bytes := [2]) (a := 0x04) (c := 0x04) form (by simp [Config.memorySize]) (by simp [Config.memorySize])
  refine ⟨first, fun a inside out => ?_⟩
  refine (byteAt_store (bytes := [2]) (a := 0x04) (c := a) form (by simp [Config.memorySize]) inside).trans (if_neg ?_)
  simp only [List.length_singleton]
  omega

/-- The journal, IDLE, at the entry to HOLD (R171). -/
theorem journalEnterHold_idle {s : State} (idle : s.journal.writing = none) :
    s.journalEnterHold = { s with journal := { s.journal with retry := .stopped, period := s.journal.period.freeze } } := by
  unfold State.journalEnterHold
  simp only [idle, Option.isSome_none, Bool.false_eq_true, if_false]
  rfl

/-- The journal with a page in writing at the entry to HOLD (R171). -/
theorem journalEnterHold_writing {s : State} (busy : s.journal.writing ≠ none) :
    s.journalEnterHold = { s with journal := { s.journal with
      writing := none, another := true, waiting := s.journal.waiting.map (fun _ => false)
      retry := .stopped, period := s.journal.period.freeze } } := by
  unfold State.journalEnterHold
  rw [if_pos (Option.isSome_iff_ne_none.2 busy)]
  rfl

theorem monitorEnterHold_idle {s : State} (idle : s.monitor.state = .off ∨ s.monitor.state = .armed) : s.monitorEnterHold = s := by
  unfold State.monitorEnterHold
  rcases idle with idle | idle <;> rw [idle]

/-! ### What the restore takes (R172) -/

theorem newestValid_some {pages : List Page} {i n : Nat} {c : Snapshot} (whole : pages[i]? = some (.whole n c)) (nonzero : n ≠ 0)
    (highest : ∀ (j m : Nat) (d : Snapshot), pages[j]? = some (.whole m d) → j ≠ i → m < n) :
    newestValid pages = some ⟨i, n, c⟩ := by
  obtain ⟨v, found, above⟩ := (foldl_newerPage (l := validPages pages) (best := none)).2 ⟨i, n, c⟩
    (.inl (mem_validPages.2 ⟨nonzero, whole⟩))
  have valid := ((foldl_newerPage (l := validPages pages) (best := none)).1 v found).resolve_right nofun
  obtain ⟨_, at_⟩ := mem_validPages.1 valid
  have page : v.page = i := by
    by_contra other
    exact absurd (highest _ _ _ at_ other) (Nat.not_lt.2 above)
  obtain ⟨p, m, d⟩ := v
  obtain rfl : p = i := page
  have same := Option.some.inj (at_.symm.trans whole)
  simp only [Page.whole.injEq] at same
  obtain ⟨rfl, rfl⟩ := same
  exact found

theorem newestValid_none {pages : List Page} (none_ : ∀ (i n : Nat) (c : Snapshot), pages[i]? = some (.whole n c) → n = 0) :
    newestValid pages = none := by
  by_contra found
  obtain ⟨v, found⟩ := Option.ne_none_iff_exists'.1 found
  have valid := ((foldl_newerPage (l := validPages pages) (best := none)).1 v found).resolve_right nofun
  obtain ⟨nonzero, at_⟩ := mem_validPages.1 valid
  exact nonzero (none_ _ _ _ at_)

theorem tornAbove_iff (pages : List Page) (n : Nat) :
    tornAbove pages n = true ↔ ∃ (j m : Nat), pages[j]? = some (.torn m) ∧ n < m := by
  unfold tornAbove
  rw [List.any_eq_true]
  constructor
  · rintro ⟨p, among, above⟩
    obtain ⟨j, at_⟩ := List.mem_iff_getElem?.1 among
    split at above
    · exact ⟨j, _, at_, of_decide_eq_true above⟩
    · cases above
  · rintro ⟨j, m, at_, above⟩
    exact ⟨_, List.mem_of_getElem? at_, decide_eq_true above⟩

/-! ### Power-on -/

/-- The part as it is restored, with TORN by the outcome and its control block written. -/
def writtenUp (r : State) : State := (if r.journal.outcome = .restored then r else r.setNotice .torn).publishAll

theorem writtenUp_eq {r : State} (high : r.resetLow = false) (form : r.port.mem.wf) :
    writtenUp r = { r with port := { r.port with
        mem := (writtenUp r).port.mem
        notice := if r.journal.outcome = .restored then r.port.notice else r.port.notice ||| 4 } }
      ∧ (writtenUp r).controlBlockShown ∧ (writtenUp r).port.mem.wf ∧ bytesKept r (writtenUp r) controlBlockBytes := by
  unfold writtenUp
  split
  · exact ⟨publishAll_frame r, publishAll_shown form high⟩
  · rw [State.setNotice_live _ _ high]
    exact ⟨publishAll_frame _, publishAll_shown form high⟩

theorem powerUp_eq (s : State) (lines : Lines) (mv : Nat) :
    s.powerUp lines mv = if mv < (writtenUp (s.restored lines mv)).stopLevel then (writtenUp (s.restored lines mv)).enterHold
      else writtenUp (s.restored lines mv) := rfl

/-- The block shown stays shown where the power state alone changes, with its byte. -/
theorem controlBlockShown_power {u t : State} (shown : u.controlBlockShown) (kept : bytesKept u t (fun a => a = 0x04))
    (power : t.byteAt 0x04 = BitVec.ofNat 8 t.supply.power.code) (monitor : t.monitor = u.monitor) (depot : t.depot = u.depot)
    (hires : t.hires = u.hires) (scanner : t.scanner.state = u.scanner.state ∧ t.scanner.cursor = u.scanner.cursor)
    (cause : t.port.cause = u.port.cause)
    (journal : t.journal.outcome = u.journal.outcome ∧ t.journal.newestSequence = u.journal.newestSequence
      ∧ t.journal.lastTime = u.journal.lastTime)
    (time : t.supply.recorderTime = u.supply.recorderTime) (tallies : t.intake.tallies = u.intake.tallies)
    (board : t.board = u.board) : t.controlBlockShown := by
  have byte {a : Nat} (other : a ≠ 4) (inside : a < 0x8000) : t.byteAt a = u.byteAt a := kept a inside other
  have field (k : Nat) {a : Nat} (other : 4 < a) (inside : a + k ≤ 0x8000) : memLe t.port.mem k a = memLe u.port.mem k a :=
    memLe_kept kept inside fun i _ => by omega
  unfold State.controlBlockShown at shown ⊢
  obtain ⟨i0, i1, i2, i3, _, start, depot_, lockout, hire, state, cursor, cause_, outcome, number, sequence, time_, last, tally, mirror⟩ := shown
  rw [monitor, depot, hires, scanner.1, scanner.2, cause, journal.1, journal.2.1, journal.2.2, time, tallies, board]
  refine ⟨(byte (by decide) (by decide)).trans i0, (byte (by decide) (by decide)).trans i1, (byte (by decide) (by decide)).trans i2,
    (byte (by decide) (by decide)).trans i3, power, (byte (by decide) (by decide)).trans start,
    (byte (by decide) (by decide)).trans depot_, (byte (by decide) (by decide)).trans lockout,
    (byte (by decide) (by decide)).trans hire, (byte (by decide) (by decide)).trans state,
    (byte (by decide) (by decide)).trans cursor, (byte (by decide) (by decide)).trans cause_,
    (byte (by decide) (by decide)).trans outcome, (field 4 (by decide) (by decide)).trans number,
    (field 4 (by decide) (by decide)).trans sequence, (field 8 (by decide) (by decide)).trans time_,
    (field 8 (by decide) (by decide)).trans last, fun k => (field 4 (by omega) ?_).trans (tally k), fun q => ?_⟩
  · have : k.index < 7 := by cases k <;> decide
    omega
  · have := quantityIndex_lt q
    obtain ⟨value, age, source, sampled⟩ := mirror q
    exact ⟨(field 2 (by omega) (by omega)).trans value, (byte (by omega) (by omega)).trans age,
      (byte (by omega) (by omega)).trans source, (field 8 (by omega) (by omega)).trans sampled⟩

/-- The entry to HOLD of a part just restored (R165). -/
theorem enterHold_restored {u : State} (high : u.resetLow = false) (off : u.monitor.state = .off) (idle : u.journal.writing = none) :
    u.enterHold = { heldBase u with journal := { u.journal with retry := .stopped, period := u.journal.period.freeze } } := by
  rw [enterHold_eq high, monitorEnterHold_idle (s := heldBase u) (.inl off), journalEnterHold_idle (by exact idle)]
  rfl

/-- The notices of a power-on: TORN by the outcome, HOLD by the voltage. -/
def powerUpNotice (torn hold : Prop) [Decidable torn] [Decidable hold] : BitVec 12 :=
  (if torn then 4 else 0) ||| (if hold then 0x10 else 0)

theorem powerUpNotice_torn {torn hold : Prop} [Decidable torn] [Decidable hold] :
    (powerUpNotice torn hold).getLsbD Notice.torn.bit = true ↔ torn := by
  unfold powerUpNotice
  by_cases t : torn <;> by_cases h : hold <;> simp [t, h, Notice.bit]

theorem powerUpNotice_hold {torn hold : Prop} [Decidable torn] [Decidable hold] :
    (powerUpNotice torn hold).getLsbD Notice.hold.bit = true ↔ hold := by
  unfold powerUpNotice
  by_cases t : torn <;> by_cases h : hold <;> simp [t, h, Notice.bit]

/-- The part after power-on, by what is restored and by the voltage. -/
theorem powerUp_becomes (s : State) (lines : Lines) (mv : Nat) :
    let r := s.restored lines mv
    let t := s.powerUp lines mv
    t = { r with
        supply := if mv < r.stopLevel then { r.supply with power := .hold, filter := .stopped } else r.supply
        port := ⟨t.port.mem, 16, powerUpNotice (r.journal.outcome ≠ .restored) (mv < r.stopLevel), 0, .powerOn⟩ }
      ∧ t.controlBlockShown ∧ bytesKept r t controlBlockBytes := by
  intro r
  obtain ⟨frame, shown, wf, kept⟩ := writtenUp_eq (r := r) rfl ⟨List.Pairwise.nil, nofun⟩
  rw [powerUp_eq]
  have level : (writtenUp r).stopLevel = r.stopLevel := by rw [frame]; rfl
  rw [level]
  generalize writtenUp r = u at *
  have port : u.port = ⟨u.port.mem, 16, if r.journal.outcome ≠ .restored then 4 else 0, 0, .powerOn⟩ := by
    rw [frame]
    by_cases restored : r.journal.outcome = .restored
    · simp only [if_pos restored, if_neg (not_not_intro restored)]
      rfl
    · have torn : r.port.notice ||| 4 = 4 := (show (0 : BitVec 12) ||| 4 = 4 by decide)
      simp only [if_neg restored, if_pos restored, torn]
      rfl
  have frame_ : u = { r with port := u.port } := by rw [frame]
  by_cases low : mv < r.stopLevel
  · rw [if_pos low]
    obtain ⟨power, kept_⟩ := heldBase_shown wf
    rw [enterHold_restored (by rw [frame]; rfl) (by rw [frame]; rfl) (by rw [frame]; rfl)]
    refine ⟨?_, ?_, bytesKept_trans kept (bytesKept_mono kept_ ?_)⟩
    · rw [frame_, port, if_pos low, powerUpNotice, if_pos low]
      rfl
    · exact controlBlockShown_power shown kept_ power rfl rfl rfl ⟨rfl, rfl⟩ rfl ⟨rfl, rfl, rfl⟩ rfl rfl rfl
    · unfold controlBlockBytes
      omega
  · rw [if_neg low]
    refine ⟨?_, shown, kept⟩
    have zero (n : BitVec 12) : n ||| 0 = n := BitVec.or_zero
    rw [frame_, port, if_neg low, powerUpNotice, if_neg low, zero]

theorem restored_supply (s : State) (lines : Lines) (mv : Nat) :
    let c := restoredContent s.journal.pages
    (s.restored lines mv).supply = ⟨.run, .run, decide (mv < c.tune.supply.voltage.level 10500), true,
      if mv < c.tune.supply.voltage.level 9000 then .running 0 else .stopped, .stopped, .stopped, .stopped, c.recorderTime, mv,
      false⟩ := rfl

/-- Settles O60: the part restored, written up, and by its voltage in HOLD. -/
theorem powerIsLostAndRestored : Obligations.PowerIsLostAndRestored := by
  refine ⟨fun s on => ⟨s.unpowered, act_on on _, rfl, rfl, rfl, fun law w writing => (law.2.2.2 on w writing).2⟩,
    fun s ign crank clutch reverse mv off => ?_⟩
  have done : exec (.powerOn ign crank clutch reverse mv) s =
      .next (s.powerUp ⟨.powerOn ign, .powerOn crank, .powerOn clutch, .powerOn reverse⟩ mv) :=
    if_neg (by simp [off])
  generalize (⟨.powerOn ign, .powerOn crank, .powerOn clutch, .powerOn reverse⟩ : Lines) = lines at done ⊢
  obtain ⟨frame, shown, kept⟩ := powerUp_becomes s lines mv
  generalize s.powerUp lines mv = t at done frame shown kept
  have tune : t.tune = (restoredContent s.journal.pages).tune := by rw [frame]; rfl
  have journal : t.journal = restoredJournal s.journal.pages := by rw [frame]; rfl
  have torn : t.noticeSet .torn = true ↔ t.journal.outcome ≠ .restored := by
    rw [journal, frame]
    exact powerUpNotice_torn
  refine ⟨t, done, ?_, ?_, ?_, ?_, ⟨shown, fun a inside out => ?_⟩, fun i n c whole nonzero highest => ?_, fun none_ => ?_⟩
  · rw [frame]
    rfl
  · rw [frame]
    rfl
  · rw [frame]
    exact ⟨rfl, rfl, rfl, rfl, rfl⟩
  · rw [tune]
    intro twice
    have stop : (s.restored lines mv).stopLevel = 6000 * twice := level_eq _ _
    have warning : (restoredContent s.journal.pages).tune.supply.voltage.level 9000 = 9000 * twice := level_eq _ _
    have dip : (restoredContent s.journal.pages).tune.supply.voltage.level 10500 = 10500 * twice := level_eq _ _
    clear_value twice
    have notice : t.noticeSet .hold = true ↔ mv < 6000 * twice := by
      rw [frame, ← stop]
      exact powerUpNotice_hold
    refine ⟨?_, notice⟩
    rw [frame, stop, restored_supply, warning, dip]
    dsimp only
    by_cases low : mv < 6000 * twice
    · rw [if_pos low, if_pos low, if_neg (by omega)]
    · rw [if_neg low, if_neg low]
      exact congrArg (fun f => Supply.mk .run .run (decide (mv < 10500 * twice)) true f .stopped .stopped .stopped
        (restoredContent s.journal.pages).recorderTime mv false) (if_congr (by omega) rfl rfl)
  · rw [kept a inside out]
    rfl
  · have newest := newestValid_some whole nonzero highest
    have content : restoredContent s.journal.pages = c := by unfold restoredContent; rw [newest]
    have outcome : t.journal.outcome = if tornAbove s.journal.pages n then .tornSkipped else .restored := by
      rw [frame]
      exact (show restoreOutcome s.journal.pages = _ by unfold restoreOutcome; rw [newest])
    refine ⟨?_, ?_, fun above => ?_, fun none_ => ?_⟩
    · rw [frame, ← content]
      refine ⟨rfl, rfl, rfl, rfl, rfl, ?_⟩
      dsimp only
      split <;> rfl
    · rw [journal]
      unfold restoredJournal
      rw [newest, content]
      exact ⟨rfl, rfl, rfl⟩
    · rw [if_pos ((tornAbove_iff _ _).2 above)] at outcome
      exact ⟨outcome, torn.2 (by rw [outcome]; decide)⟩
    · have none_above : ¬ tornAbove s.journal.pages n = true := fun above => by
        obtain ⟨j, m, at_, above⟩ := (tornAbove_iff _ _).1 above
        exact absurd (none_ j m at_) (Nat.not_le.2 above)
      rw [if_neg none_above] at outcome
      exact ⟨outcome, Bool.eq_false_iff.2 fun set_ => torn.1 set_ outcome⟩
  · have newest := newestValid_none none_
    have outcome : t.journal.outcome = .blank := by
      rw [journal]
      exact (show restoreOutcome s.journal.pages = _ by unfold restoreOutcome; rw [newest])
    have content : restoredContent s.journal.pages = .factory := by unfold restoredContent; rw [newest]
    have time : t.supply.recorderTime = (restoredContent s.journal.pages).recorderTime := by
      rw [frame]
      dsimp only
      split <;> rfl
    refine ⟨outcome, torn.2 (by rw [outcome]; decide), ?_⟩
    rw [time, journal, content, frame]
    refine ⟨congrArg Snapshot.slots content, congrArg Snapshot.hire content, congrArg Snapshot.bucket content,
      congrArg Snapshot.tune content, ?_, rfl, ?_, ?_⟩
    · exact congrArg (fun c => c.routes.map (fun e => (⟨e, none⟩ : Route))) content
    all_goals rw [restoredJournal, newest]
    all_goals rfl

end Sys2Proof.Proofs
end

section
/-! The sensor supply (R51 to R53). -/
namespace Sys2Proof.Proofs
open Sys2Proof Sys2Proof.Machine

/-- A leaving of ON (R46, R52): the windows in progress are marked. -/
theorem setSensor_leavesOn {s : State} (on : s.sensor.state = .on) {v : Sensor} (leaves : v.state ≠ .on) :
    s.setSensor v = { s with
      sensor := v, pulse := s.pulse.each (fun c => { c with mark := c.mark || s.pulse.windows }) } := by
  unfold State.setSensor
  cases windows : s.pulse.windows with
  | false =>
    simp only [Bool.or_false, Bool.false_eq_true, and_false, if_false]
    rfl
  | true =>
    simp only [Bool.or_true, on, leaves, and_self, if_true, ne_eq, not_false_eq_true]
    rfl

/-- Some channel is GOOD. -/
theorem anyGood_iff (p : Pulse) :
    [p.p0, p.p1, p.p2, p.p3].any (fun c => decide (c.health = .good)) = true ↔ ∃ ch, (p.get ch).health = .good := by
  simp only [List.any_cons, List.any_nil, Bool.or_false, Bool.or_eq_true, decide_eq_true_eq]
  constructor
  · rintro (h | h | h | h)
    · exact ⟨.p0, h⟩
    · exact ⟨.p1, h⟩
    · exact ⟨.p2, h⟩
    · exact ⟨.p3, h⟩
  · rintro ⟨ch, h⟩
    cases ch with
    | p0 => exact .inl h
    | p1 => exact .inr (.inl h)
    | p2 => exact .inr (.inr (.inl h))
    | p3 => exact .inr (.inr (.inr h))

/-- Every channel at the limit and FAULTED (R52 step 4). -/
def faulted (s : State) : State :=
  { s with pulse := s.pulse.each (fun c => { c with counter := s.tune.pulse.limit, health := .faulted }) }

theorem faultAll_good {s : State} (high : s.resetLow = false) (good : ∃ ch, (s.pulse.get ch).health = .good) :
    s.faultAll = { faulted s with port := { s.port with notice := s.port.notice ||| 0x20 } } := by
  unfold State.faultAll
  dsimp only
  rw [if_pos ((anyGood_iff s.pulse).2 good), State.setNotice_live _ _ (by exact high)]
  rfl

theorem faultAll_faulted {s : State} (none_ : ∀ ch, (s.pulse.get ch).health = .faulted) : s.faultAll = faulted s := by
  unfold State.faultAll
  dsimp only
  rw [if_neg fun good => by
    obtain ⟨ch, good⟩ := (anyGood_iff s.pulse).1 good
    rw [none_ ch] at good
    cases good]
  rfl

theorem faultAll_frame {s : State} (high : s.resetLow = false) :
    s.faultAll = { faulted s with port := { s.port with notice := s.faultAll.port.notice } } := by
  by_cases good : ∃ ch, (s.pulse.get ch).health = .good
  · rw [faultAll_good high good]
  · rw [faultAll_faulted fun ch => by
      cases h : (s.pulse.get ch).health with
      | good => exact absurd ⟨ch, h⟩ good
      | faulted => rfl]
    rfl

/-- A short in ON (R52). -/
theorem sensorSupplyShort_on {s : State} (high : s.resetLow = false) (on : s.sensor.state = .on) :
    let marked : State := { s with
      sensor := ⟨.shorted, s.sensor.retry, .running 2000, .stopped⟩
      pulse := s.pulse.each (fun c => { c with mark := c.mark || s.pulse.windows }) }
    sensorSupplyShort s = { faulted marked with
      port := { s.port with notice := marked.faultAll.port.notice ||| 0x40 } } := by
  intro marked
  have high_ : marked.resetLow = false := high
  unfold sensorSupplyShort
  rw [on]
  dsimp only
  rw [setSensor_leavesOn on (by simp), State.setNotice_live _ _ (by rw [faultAll_frame high_]; exact high_), faultAll_frame high_]
  rfl

/-- Settles O48: each row of R51 to R53. -/
theorem sensorSupplyMoves : Obligations.SensorSupplyMoves := by
  refine fun s => ⟨?_, fun live => ⟨fun on => ?_, fun trial more => ?_, fun trial last => ?_, fun notOn notTrial => ?_,
    fun ms shorted running => ?_, fun ms trial running => ?_⟩⟩
  · unfold State.sensorOutput
    cases s.sensor.state <;> simp
  · refine ⟨sensorSupplyShort s, act_on live.1 _, ?_⟩
    rw [sensorSupplyShort_on live.2 on]
    refine ⟨rfl, rfl, fun ch => ?_, fun ⟨ch, good⟩ => ?_, fun none_ => ?_⟩
    · exact (pulse_get_each _ _ ch).trans (by rw [pulse_get_each])
    · dsimp only
      rw [faultAll_good (by exact live.2) ⟨ch, by rw [pulse_get_each]; exact good⟩]
      exact BitVec.or_assoc _ _ _
    · dsimp only
      rw [faultAll_faulted fun ch => by rw [pulse_get_each]; exact none_ ch]
      rfl
  all_goals refine (act_on live.1 _).trans ?_
  · unfold sensorSupplyShort
    rw [trial]
    dsimp only
    rw [if_neg (by omega), setSensor_still (by simp [trial])]
  · unfold sensorSupplyShort
    rw [trial]
    dsimp only
    rw [if_pos (by omega), setSensor_still (by simp [trial]), State.setNotice_live _ _ (by exact live.2)]
    rfl
  · unfold sensorSupplyShort
    cases h : s.sensor.state with
    | on => exact absurd h notOn
    | trial => exact absurd h notTrial
    | _ => rfl
  · unfold offTimerExpiry
    rw [if_pos ⟨shorted, by rw [running]; rfl⟩, setSensor_still (by simp [shorted])]
  · unfold trialTimerExpiry
    rw [if_pos ⟨trial, by rw [running]; rfl⟩, setSensor_still (by simp [trial])]

end Sys2Proof.Proofs
end

section
/-! PEEK and DEPOT-IN: blocks that answer at once. -/
namespace Sys2Proof.Proofs
open Sys2Proof Sys2Proof.Machine

/-! ### The command of a held slip -/

theorem exec_work {s : State} {c : Instr} {kind : SlipKind} {p : Slip} {work : Slip → State → Verdict × State}
    (holds : s.holdsSlip kind p) (arm : exec c s = s.act (fun s => s.carryOut kind work)) :
    exec c s = .next ((work p s).2.conclude p (work p s).1) := by
  rw [arm, act_on holds.1, carryOut_good holds.2.1 holds.2.2]

/-- A block that answers at once. -/
theorem exec_back {s t : State} {c : Instr} {kind : SlipKind} {p : Slip} {work : Slip → State → Verdict × State} {r : Result}
    (holds : s.holdsSlip kind p) (arm : exec c s = s.act (fun s => s.carryOut kind work)) (answer : work p s = (.back r, t)) :
    exec c s = .next (t.returnSlip p r) := by
  rw [exec_work holds arm, answer]
  rfl

/-- A block that accepts, and has the slip wait for its checkpoint. -/
theorem exec_wait {s t : State} {c : Instr} {kind : SlipKind} {p : Slip} {work : Slip → State → Verdict × State} {detail used : Nat}
    (holds : s.holdsSlip kind p) (arm : exec c s = s.act (fun s => s.carryOut kind work))
    (answer : work p s = (.wait detail used, t)) : exec c s = .next (t.waitSave ⟨p, detail, used⟩) := by
  rw [exec_work holds arm, answer]
  rfl

/-! ### PEEK -/

theorem peekWork_refused {s : State} {p : Slip} {target : PeekTarget} {status : Status} (length : p.inLength = 4)
    (read : readPeekTarget s.port.mem p.inOffset = some target) (refused : s.peekCopy target = .error status) :
    peekWork p s = (.back ⟨status, 0, 0⟩, s) := by
  simp only [peekWork, length, ne_eq, not_true_eq_false, if_false, read, refused]
  rfl

theorem peekWork_copies {s : State} {p : Slip} {target : PeekTarget} {bytes : List Byte} {detail : Nat} (length : p.inLength = 4)
    (read : readPeekTarget s.port.mem p.inOffset = some target) (copies : s.peekCopy target = .ok (bytes, detail)) :
    peekWork p s = if p.outLength < bytes.length then (.back ⟨.shortSpace, 0, 0⟩, s)
      else (.back ⟨.done, detail, bytes.length⟩, s.store p.outOffset bytes) := by
  simp only [peekWork, length, ne_eq, not_true_eq_false, if_false, read, copies]
  rfl

/-- Settles O37: each target by its copy. -/
theorem peekCopiesItsTarget : Obligations.PeekCopiesItsTarget := by
  intro s p holds
  refine ⟨fun length => ?_, fun length unread => ?_, fun length read closed => ?_, fun spec length read none_ => ?_,
    fun target bytes detail length read copy => ?_⟩
  · exact exec_back holds rfl (if_pos length)
  · refine exec_back holds rfl ?_
    simp only [peekWork, length, ne_eq, not_true_eq_false, if_false, unread]
    rfl
  · exact exec_back holds rfl (peekWork_refused length read (by simp only [State.peekCopy, closed]))
  · exact exec_back holds rfl (peekWork_refused length read (by simp only [State.peekCopy, none_]))
  · have copies : s.peekCopy target = .ok (bytes, detail) := by
      rcases copy with ⟨rfl, rfl, rfl⟩ | ⟨rfl, rfl, rfl⟩ | ⟨h, rfl, open_, rfl, rfl⟩ | ⟨spec, c, rfl, found, rfl⟩
      · rfl
      · rfl
      · simp only [State.peekCopy, open_]
        rfl
      · simp only [State.peekCopy, found]
    have answer := peekWork_copies length read copies
    refine ⟨fun fits => ?_, fun short => ?_⟩
    · rw [if_neg (Nat.not_lt.2 fits)] at answer
      exact exec_back holds rfl answer
    · rw [if_pos short] at answer
      exact exec_back holds rfl answer

/-! ### DEPOT-IN (R155, R156) -/

theorem depotInWork_refused {s : State} {p : Slip} {r : Result} (refused : checkDepotIn s p = some r) :
    depotInWork p s = (.back r, s) := by
  simp only [depotInWork, refused]

theorem turning_iff (m : StartState) : m.turning = true ↔ m = .cranking ∨ m = .catching ∨ m = .running := by
  cases m <;> simp [StartState.turning]

theorem turning_idle {m : StartState} (idle : m = .off ∨ m = .armed) : m.turning = false := by
  rcases idle with rfl | rfl <;> rfl

/-- The depot state and the lockout flag as they are published. -/
theorem publishDepot_shown {s : State} (form : s.port.mem.wf) (high : s.resetLow = false) :
    s.publishDepot = { s with port := { s.port with mem := s.publishDepot.port.mem } }
      ∧ s.publishDepot.port.mem.wf
      ∧ s.publishDepot.byteAt 0x06 = BitVec.ofNat 8 s.depot.state.code ∧ s.publishDepot.byteAt 0x07 = flagByte s.depot.lockout
      ∧ bytesKept s s.publishDepot (within 0x06 2) := by
  unfold State.publishDepot
  have byte {c : Nat} (inside : c < Config.memorySize) := byteAt_publish (c := c) (a := 0x06)
    (bytes := leBytes 1 s.depot.state.code ++ [flagByte s.depot.lockout]) form high (by simp [Config.memorySize]) inside
  refine ⟨State.publish_frame _ _ _, State.publish_wf _ _ _ form, byte (by decide), byte (by decide), ?_⟩
  exact State.publish_kept _ _ _ _ form (by simp [Config.memorySize]) fun c hc => by simpa [within] using hc

/-- Settles O42: the checks in order, then the code. -/
theorem depotInIsJudgedByItsCode : Obligations.DepotInIsJudgedByItsCode := by
  intro s p holds
  have refuses {r : Result} (refused : checkDepotIn s p = some r) : exec .depotIn s = .next (s.returnSlip p r) :=
    exec_back holds rfl (depotInWork_refused refused)
  refine ⟨fun length => refuses (if_pos length), fun length => ?_⟩
  have checks : checkDepotIn s p = if s.depot.lockout then some (refusal .lockedOut)
      else if s.depot.state = .depot then some (refusal .depotAlready)
      else if s.monitor.state.turning then some (refusal .engineRunning)
      else s.hires.hire.map (fun h => ⟨.hireOpenAlready, h.number % 65536, 0⟩) := if_neg (not_not_intro length)
  refine ⟨fun high form lockout normal idle closed code => ?_, fun locked => ?_, fun lockout already => ?_,
    fun lockout normal turning => ?_, fun h lockout normal idle open_ => ?_, fun lockout normal idle closed code => ?_⟩
  · have passes : checkDepotIn s p = none := by
      simp [checks, lockout, normal, turning_idle idle, closed]
    have enters : s.enterDepot = (s.withDepot ⟨.depot, 0, false, [], .running 1800000⟩).publishDepot := by
      unfold State.enterDepot
      rw [lockout]
    obtain ⟨frame, _, state, locked, kept⟩ := publishDepot_shown
      (s := s.withDepot ⟨.depot, 0, false, [], .running 1800000⟩) form high
    refine ⟨s.enterDepot, exec_back holds rfl (by simp [depotInWork, passes, code]), ?_⟩
    rw [enters]
    exact ⟨frame, state, locked, kept⟩
  · exact refuses (by rw [checks, if_pos locked]; rfl)
  · exact refuses (by rw [checks, if_neg (by simp [lockout]), if_pos already]; rfl)
  · exact refuses (by
      rw [checks, if_neg (by simp [lockout]), if_neg (by simp [normal]), if_pos ((turning_iff _).2 turning)]; rfl)
  · exact refuses (by simp [checks, lockout, normal, turning_idle idle, open_])
  · have passes : checkDepotIn s p = none := by
      simp [checks, lockout, normal, turning_idle idle, closed]
    refine ⟨s.countWrongCode, exec_back holds rfl (by simp [depotInWork, passes, code]), fun few => ?_, fun third high => ?_⟩
    · exact if_neg (by omega)
    · have counted : s.countWrongCode = State.publishDepot { s with
          depot := { s.depot with wrongCodes := s.depot.wrongCodes + 1, lockout := true }
          port := { s.port with notice := s.port.notice ||| 0x400 } } := by
        unfold State.countWrongCode
        dsimp only
        rw [if_pos (by omega), State.setNotice_live _ _ (by exact high)]
        rfl
      rw [counted]
      exact ⟨State.publish_frame _ _ _, fun form => (publishDepot_shown (by exact form) (by exact high)).2.2.2⟩

end Sys2Proof.Proofs
end

section
/-! HIRE-OPEN, HIRE-CLOSE and FIT: blocks that accept and wait for their checkpoint. -/
namespace Sys2Proof.Proofs
open Sys2Proof Sys2Proof.Machine

/-! ### A record in the out-buffer -/

/-- A record stored in the out-buffer reads there, and no other byte changes. -/
theorem store_out_shown {s : State} (form : s.port.mem.wf) {p : Slip} (good : p.referencesGood = true) {record : List Byte}
    (fits : record.length ≤ p.outLength) :
    (s.store p.outOffset record).port.mem.wf
      ∧ (∀ i (h : i < record.length), (s.store p.outOffset record).byteAt (p.outOffset + i) = record[i])
      ∧ bytesKept s (s.store p.outOffset record) (within p.outOffset record.length) := by
  refine ⟨State.store_mem_wf _ _ _ form, fun i h => ?_, ?_⟩
  · rcases out_in_buffer good with zero | ⟨_, low, high⟩
    · omega
    · exact State.store_byteAt_inside _ _ _ _ form.1 h (by unfold Config.memorySize at high ⊢; omega)
  · rcases out_in_buffer good with zero | ⟨_, low, high⟩
    · obtain rfl : record = [] := List.length_eq_zero_iff.1 (by omega)
      exact bytesKept_of_mem rfl _
    · exact State.store_kept _ _ _ _ form (by omega) fun c hc => hc

/-- A record that stands in the out-buffer stands there still when only bytes of the control block change. -/
theorem record_kept {s t : State} {changed : Nat → Prop} (kept : bytesKept s t changed) (block : ∀ a, changed a → a < 0x500)
    {p : Slip} (good : p.referencesGood = true) {record : List Byte} (fits : record.length ≤ p.outLength)
    (stands : ∀ i (h : i < record.length), s.byteAt (p.outOffset + i) = record[i]) (i : Nat) (h : i < record.length) :
    t.byteAt (p.outOffset + i) = record[i] := by
  rcases out_in_buffer good with zero | ⟨_, low, high⟩
  · omega
  · rw [kept _ (by omega) fun changed_ => by
      have := block _ changed_
      omega]
    exact stands i h

theorem scannerBytes_block {a : Nat} (h : scannerBytes a) : a < 0x500 := by
  unfold scannerBytes at h
  omega

/-! ### The hire fields of the control block -/

/-- The bytes of the hire state and the hire number (12.3). -/
def hireBytes (a : Nat) : Prop := a = 0x08 ∨ within 0x10 4 a

/-- The hire state and number as they are published (R139). -/
theorem publishHire_shown {s : State} (form : s.port.mem.wf) (high : s.resetLow = false) :
    s.publishHire = { s with port := { s.port with mem := s.publishHire.port.mem } }
      ∧ s.publishHire.port.mem.wf ∧ s.publishHire.byteAt 0x08 = flagByte s.hires.hire.isSome
      ∧ memLe s.publishHire.port.mem 4 0x10 = s.hires.shownNumber % 2 ^ 32 ∧ bytesKept s s.publishHire hireBytes := by
  have published : s.publishHire = (s.store 0x08 [flagByte s.hires.hire.isSome]).store 0x10 (leBytes 4 s.hires.shownNumber) := by
    unfold State.publishHire
    rw [State.publish_live _ _ _ (by rw [publish_resetLow]; exact high), State.publish_live _ _ _ high]
  rw [published]
  have first := State.store_mem_wf s 0x08 [flagByte s.hires.hire.isSome] form
  have kept := State.store_kept s 0x08 [flagByte s.hires.hire.isSome] hireBytes form (by simp [Config.memorySize]) fun c hc => by
    obtain ⟨low, top⟩ := hc
    rw [List.length_singleton] at top
    exact .inl (by omega)
  have kept_ := State.store_kept _ 0x10 (leBytes 4 s.hires.shownNumber) (within 0x10 4) first (by simp [Config.memorySize])
    fun c hc => by simpa [within] using hc
  have flag := byteAt_store (bytes := [flagByte s.hires.hire.isSome]) (a := 0x08) (c := 0x08) form (by simp [Config.memorySize])
    (by decide)
  refine ⟨rfl, State.store_mem_wf _ _ _ first, ?_, memLe_store first (by unfold Config.memorySize; omega),
    bytesKept_trans kept (bytesKept_mono kept_ fun _ => .inr)⟩
  exact (kept_ 0x08 (by decide) (by unfold within; omega)).trans flag

/-- A record out and a register changed and shown, the slip then waiting for the checkpoint that holds the change (R134, R136). -/
theorem handsOver {s : State} (high : s.resetLow = false) (form : s.port.mem.wf) (free : s.journalFree)
    (moved : s.scanner.state ≠ .waitSave) {p : Slip} (good : p.referencesGood = true) {record : List Byte}
    (fits : record.length ≤ p.outLength) (register : HireRegister) (detail : Nat) :
    ∃ t, (((s.store p.outOffset record).withHires register).publishHire).waitSave ⟨p, detail, record.length⟩ = t ∧ t = { s with
        hires := register, scanner := { s.scanner with state := .waitSave, held := some ⟨p, detail, record.length⟩ }
        journal := t.journal, port := { s.port with mem := t.port.mem } }
      ∧ t.journal.writing.map (·.staging.hire) = some register.hire ∧ t.journal.waiting = some true
      ∧ (∀ i (h : i < record.length), t.byteAt (p.outOffset + i) = record[i])
      ∧ t.byteAt 0x08 = flagByte register.hire.isSome ∧ memLe t.port.mem 4 0x10 = register.shownNumber % 2 ^ 32
      ∧ bytesKept s t (fun a => scannerBytes a ∨ a = 0x08 ∨ within 0x10 4 a ∨ within p.outOffset record.length a) := by
  obtain ⟨wf, stands, kept⟩ := store_out_shown (s := s) form good fits
  obtain ⟨frame_, wf_, flag, shown, kept_⟩ := publishHire_shown (s := (s.store p.outOffset record).withHires register) wf high
  have stands_ := record_kept kept_ (fun a h => by unfold hireBytes within at h; omega) good fits stands
  generalize ((s.store p.outOffset record).withHires register).publishHire = u at *
  obtain ⟨frame, started, waits, _, shownScanner⟩ := waitSave_free (s := u) (by rw [frame_]; exact high) wf_
    (by rw [frame_]; exact free) (by rw [frame_]; exact moved) ⟨p, detail, record.length⟩
  have record_ := record_kept shownScanner (fun _ => scannerBytes_block) good fits stands_
  generalize u.waitSave ⟨p, detail, record.length⟩ = t at *
  refine ⟨t, rfl, ?_, ?_, waits, record_, ?_, ?_, ?_⟩
  · rw [frame, frame_]
    rfl
  · rw [started.1, frame_]
    rfl
  · exact (shownScanner 0x08 (by decide) (by unfold scannerBytes; omega)).trans flag
  · rw [memLe_kept shownScanner (by unfold Config.memorySize; omega) fun i _ => by unfold scannerBytes; omega]
    exact shown
  · refine bytesKept_trans (bytesKept_mono kept fun _ h => .inr (.inr (.inr h))) (bytesKept_trans
      (bytesKept_mono kept_ fun a h => ?_) (bytesKept_mono shownScanner fun _ h => .inl h))
    exact .inr (h.imp_right .inl)

/-! ### HIRE-OPEN (R133, R134) and HIRE-CLOSE (R135, R136) -/

theorem hireOpenWork_accepted {s : State} {p : Slip} (accepted : checkHireOpen s p = none) :
    hireOpenWork p s = (.wait s.liveEntries.length (registerLength s.hires.bucket.entries.length),
      ((s.store p.outOffset (s.hires.bucket.bytes s.now)).withHires
        (s.openedRegister (memLe s.port.mem 4 p.inOffset))).publishHire) := by
  simp only [hireOpenWork, accepted]

/-- Settles O40: the bucket record out, the register opened and shown, then the wait. -/
theorem hireOpenHandsOverTheBucket : Obligations.HireOpenHandsOverTheBucket := by
  intro s p holds high form free length normal closed size space number record live
  have accepted : checkHireOpen s p = none := by
    simp [checkHireOpen, length, normal, closed, registerLength, Nat.not_lt.2 space]
  have answer := exec_wait (c := .hireOpen) holds rfl (hireOpenWork_accepted accepted)
  rw [registerLength, ← size] at answer
  obtain ⟨t, eq, frame, holdsHire, waits, stands, flag, shown, kept⟩ := handsOver high form free (holdsSlip_moved holds) holds.2.2
    (record := record) (by rw [size]; exact space) (s.openedRegister number) live.length
  refine ⟨t, answer.trans (congrArg _ eq), ?_, ?_, ?_, waits, stands, flag, shown.trans (Nat.mod_eq_of_lt (memLe_lt s.port.mem 4 p.inOffset)), kept⟩
  · rw [frame]
    rfl
  · rw [frame]
  · rw [holdsHire, frame]

theorem hireCloseWork_accepted {s : State} {p : Slip} {h : Hire} (accepted : checkHireClose s p = .ok h) :
    hireCloseWork p s = (.wait h.entries.length (registerLength h.entries.length),
      ((s.store p.outOffset (h.bytes s.now)).withHires { s.hires with hire := none, lastClosed := h.number }).publishHire) := by
  simp only [hireCloseWork, accepted]

/-- Settles O41: the summary out, the register closed and shown, then the wait. -/
theorem hireCloseReturnsTheSummary : Obligations.HireCloseReturnsTheSummary := by
  intro s p h holds high form free length open_ size space number record
  have accepted : checkHireClose s p = .ok h := by
    simp [checkHireClose, length, open_, registerLength, Nat.not_lt.2 space]
  have answer := exec_wait (c := .hireClose) holds rfl (hireCloseWork_accepted accepted)
  rw [registerLength, ← size] at answer
  obtain ⟨t, eq, frame, holdsHire, waits, stands, flag, shown, kept⟩ := handsOver high form free (holdsSlip_moved holds) holds.2.2
    (record := record) (by rw [size]; exact space) { s.hires with hire := none, lastClosed := h.number } h.entries.length
  refine ⟨t, answer.trans (congrArg _ eq), ?_, ?_, holdsHire, waits, stands, flag, shown.trans (Nat.mod_eq_of_lt number), kept⟩
  · rw [frame]
  · rw [frame]

end Sys2Proof.Proofs
end

section
/-! FIT, and the places of the component table, which no sample changes. -/
namespace Sys2Proof.Proofs
open Sys2Proof Sys2Proof.Machine

/-! ### FIT (R15) -/

theorem freeSlot_lowest {slots : List (Option Component)} {slot : Nat} (free : slots[slot]? = some none)
    (lowest : ∀ i, i < slot → slots[i]? ≠ some none) : freeSlot slots = some slot := by
  unfold freeSlot
  obtain ⟨inside, free⟩ := List.getElem?_eq_some_iff.1 free
  refine List.findIdx?_eq_some_iff_getElem.2 ⟨inside, by rw [free]; rfl, fun j hj => ?_⟩
  have other := lowest j hj
  rw [List.getElem?_eq_getElem (by omega)] at other
  cases h : slots[j] with
  | none => exact absurd (congrArg some h) other
  | some c => exact Bool.false_ne_true

theorem place_entries (s : State) (slot : Nat) (c : Component) :
    (s.place slot c).hires = { s.hires with bucket := { s.hires.bucket with entries :=
      (if c.cls.hasResidue = true then appendEntry s.hires.bucket.entries (damageEntry slot c)
        else s.hires.bucket.entries) } } := by
  unfold State.place State.handToBucket
  split <;> rfl

/-- Settles O33: the record is placed, then the slip waits. -/
theorem fitFillsTheLowestFreeSlot : Obligations.FitFillsTheLowestFreeSlot := by
  intro s p cls slot holds high form free checked vacant lowest record
  have work : fitWork p s = (.wait slot 0, s.place slot record) := by
    simp only [fitWork, checked, freeSlot_lowest vacant lowest]
    rfl
  have class_ : record.cls = cls := fittedRecord_cls s p cls
  have frame_ := place_frame s slot record
  have entries := place_entries s slot record
  have answer := exec_wait (c := .fit) holds rfl work
  rw [damageEntry, class_] at entries
  generalize s.place slot record = u at *
  obtain ⟨frame, started, waits, state, kept⟩ := waitSave_free (s := u) (by rw [frame_]; exact high) (by rw [frame_]; exact form)
    (by rw [frame_]; exact free) (by rw [frame_]; exact holdsSlip_moved holds) ⟨p, slot, 0⟩
  generalize u.waitSave ⟨p, slot, 0⟩ = t at *
  have hires : t.hires = u.hires := by rw [frame]
  refine ⟨t, answer, ?_, ?_, ?_, ?_, ?_, waits, state, ?_⟩
  · rw [frame, frame_]
  · rw [hires, entries]
  · rw [hires, entries]
  · rw [frame, frame_]
  · rw [started.1, frame, frame_]
    rfl
  · exact fun a inside out => (kept a inside out).trans (by rw [frame_]; rfl)

/-! ### The places of the component table -/

/-- Class and position of each slot's record. -/
def placesOf (s : State) : List (Option (ComponentClass × Nat)) := s.slots.map (Option.map fun c => (c.cls, c.position))

theorem slotAt_places (s : State) (i : Nat) : (s.slotAt i).map (fun c => (c.cls, c.position)) = ((placesOf s)[i]?).join := by
  unfold placesOf State.slotAt
  rw [List.getElem?_map]
  cases s.slots[i]? with
  | none => rfl
  | some o => rfl

theorem findSlot_places (s : State) (cls : ComponentClass) (position : Nat) :
    findSlot s.slots cls position = (placesOf s).findIdx? (fun o => decide (o = some (cls, position))) := by
  unfold findSlot placesOf
  rw [List.findIdx?_map]
  congr 1
  funext o
  cases o <;> simp [holds]

theorem placesOf_modifyBody (s : State) (i : Nat) {f : Body → Body} (cls : ∀ b, (f b).cls = b.cls) :
    placesOf (s.modifyBody i f) = placesOf s := by
  unfold placesOf State.modifyBody
  refine List.ext_getElem? fun j => ?_
  simp only [State.withSlots_slots, List.getElem?_map, List.getElem?_modify]
  cases s.slots[j]? with
  | none => rfl
  | some o =>
    cases o with
    | none => by_cases h : i = j <;> simp [h]
    | some c => by_cases h : i = j <;> simp [h, Component.cls, cls]

theorem mapResidue_cls (f : Residue → Residue) (b : Body) : (b.mapResidue f).cls = b.cls := by cases b <;> rfl

theorem bumpClamped_cls (b : Body) : b.bumpClamped.cls = b.cls := by cases b <;> rfl

theorem placesOf_settle (s : State) (slot : Nat) (g : Gated) : placesOf (s.settle slot g) = placesOf s := by
  obtain ⟨_, slots, _⟩ := settle_becomes s slot g
  have same : (s.settle slot g).slots = (s.modifyBody slot _).slots := slots
  unfold placesOf
  rw [same]
  exact placesOf_modifyBody s slot fun b => mapResidue_cls _ b

theorem placesOf_takeSample (s : State) (x : SlotSample) : placesOf (s.takeSample x) = placesOf s := by
  unfold State.takeSample
  split
  · split
    · dsimp only
      rw [placesOf_settle]
      split
      · exact placesOf_modifyBody s _ bumpClamped_cls
      · rfl
    · rfl
  · rfl

/-- Taking samples leaves every place as it is. -/
theorem placesOf_takeWaiting (s : State) (test : SlotSample → Bool) : placesOf (s.takeWaiting test) = placesOf s := by
  have taken (l : List SlotSample) : ∀ t : State, placesOf (l.foldl State.takeSample t) = placesOf t := by
    induction l with
    | nil => exact fun _ => rfl
    | cons x rest ih => exact fun t => (ih _).trans (placesOf_takeSample t x)
  unfold State.takeWaiting
  split
  · exact taken _ _
  · rfl

theorem findSpec_slotAt {s : State} {spec : SlotSpec} {n : Nat} {c : Component} (h : s.findSpec spec = some (n, c)) :
    s.slotAt n = some c := by
  cases spec with
  | byNumber m =>
    obtain ⟨d, at_, eq⟩ := Option.map_eq_some_iff.1 h
    cases eq
    exact at_
  | byPlace cls position =>
    obtain ⟨m, _, found⟩ := Option.bind_eq_some_iff.1 h
    obtain ⟨d, at_, eq⟩ := Option.map_eq_some_iff.1 found
    cases eq
    exact at_

/-- The slot a selector names is a matter of the places alone. -/
theorem findSpec_places {s t : State} (places : placesOf t = placesOf s) (spec : SlotSpec) :
    (t.findSpec spec).map (·.1) = (s.findSpec spec).map (·.1) := by
  have fitted (i : Nat) : (t.slotAt i).map (fun _ => i) = (s.slotAt i).map (fun _ => i) := by
    have same := congrArg (Option.map fun _ => i) ((slotAt_places t i).trans ((by rw [places] : _ = _).trans (slotAt_places s i).symm))
    rw [Option.map_map, Option.map_map] at same
    exact same
  cases spec with
  | byNumber n =>
    simp only [State.findSpec, Option.map_map]
    exact fitted n
  | byPlace cls position =>
    simp only [State.findSpec, findSlot_places, places, Option.map_bind, Function.comp_def, Option.map_map]
    simp only [fitted]

end Sys2Proof.Proofs
end

section
/-! UNFIT: its checks, the record that goes out, and the samples that are taken before it. -/
namespace Sys2Proof.Proofs
open Sys2Proof Sys2Proof.Machine

/-! ### Classes with a residue -/

theorem hasResidue_iff (c : Component) : c.cls.hasResidue = true ↔ ∃ r, c.body.residue = some r := by
  unfold Component.cls
  cases c.body <;> simp [Body.cls, ComponentClass.hasResidue, Body.residue]

theorem points_none {c : Component} (none_ : c.cls.hasResidue = false) : c.body.points = 0 := by
  have no : c.body.residue = none := by
    cases h : c.body.residue with
    | none => rfl
    | some r => exact absurd ((hasResidue_iff c).2 ⟨r, h⟩) (by simp [none_])
  unfold Body.points
  rw [no]

/-! ### What the checks of UNFIT find (R16) -/

theorem checkUnfit_ok {s : State} {p : Slip} {found : Nat × Component} (h : checkUnfit s p = .ok found) :
    s.unfitSlot p = some found.1 ∧ s.slotAt found.1 = some found.2 ∧ exportSize found.2 p.retire ≤ p.outLength := by
  unfold checkUnfit at h
  dsimp only at h
  unfold State.unfitSlot
  split at h
  · cases h
  next depot =>
    rw [if_neg depot]
    split at h
    · cases h
    next length =>
      rw [if_neg length]
      split at h
      · cases h
      next spec read =>
        split at h
        · cases h
        next here selected =>
          split at h
          · cases h
          next space =>
            obtain rfl := Except.ok.inj h
            refine ⟨?_, findSpec_slotAt selected, Nat.not_lt.1 space⟩
            rw [read]
            exact congrArg (Option.map (·.1)) selected

theorem unfitSlot_places {s t : State} (depot : t.depot = s.depot) (mem : t.port.mem = s.port.mem)
    (places : placesOf t = placesOf s) (p : Slip) : t.unfitSlot p = s.unfitSlot p := by
  unfold State.unfitSlot
  rw [depot, mem]
  cases readSlotSpec s.port.mem p.inOffset (memGet s.port.mem p.inOffset).toNat with
  | none => rfl
  | some spec => simp only [Option.bind_some, findSpec_places places spec]

/-- With no sample waiting at the slot it names an UNFIT is judged as things stand. -/
theorem settleForUnfit_none {s : State} {p : Slip} {slot : Nat} (names : s.unfitSlot p = some slot)
    (none_ : ∀ x ∈ s.samples, x.slot ≠ slot) : s.settleForUnfit p = s := by
  unfold State.settleForUnfit
  rw [names]
  exact s.takeWaiting_none _ fun x hx => decide_eq_false (none_ x hx)

/-! ### The record out and the slot free (R17) -/

/-- A record exported and its slot freed, the slip then waiting for the checkpoint that holds the change. -/
theorem takesOut {s : State} (high : s.resetLow = false) (form : s.port.mem.wf) (free : s.journalFree)
    (moved : s.scanner.state ≠ .waitSave) {p : Slip} (good : p.referencesGood = true) {c : Component} {n : Nat}
    (size : (c.exportBytes p.retire).length = n) (fits : n ≤ p.outLength) (slot : Nat) :
    ∃ t, (s.takeOut p slot c).waitSave ⟨p, slot, n⟩ = t
      ∧ t = { s with
          slots := s.slots.set slot none
          hires := { s.hires with bucket := { s.hires.bucket with entries :=
            (if c.cls.hasResidue = true then releaseEntry slot s.hires.bucket.entries else s.hires.bucket.entries) } }
          scanner := { s.scanner with state := .waitSave, held := some ⟨p, slot, n⟩ }
          journal := t.journal, port := { s.port with mem := t.port.mem } }
      ∧ t.journal.writing.map (·.staging.slots) = some t.slots ∧ t.journal.waiting = some true
      ∧ (∀ i (h : i < (c.exportBytes p.retire).length), t.byteAt (p.outOffset + i) = (c.exportBytes p.retire)[i])
      ∧ bytesKept s t (fun a => scannerBytes a ∨ within p.outOffset n a) := by
  subst size
  obtain ⟨wf, stands, kept⟩ := store_out_shown (s := s) form good fits
  have frame_ : s.takeOut p slot c = { s with
      slots := s.slots.set slot none
      hires := { s.hires with bucket := { s.hires.bucket with entries :=
        (if c.cls.hasResidue = true then releaseEntry slot s.hires.bucket.entries else s.hires.bucket.entries) } }
      port := (s.store p.outOffset (c.exportBytes p.retire)).port } := by
    unfold State.takeOut State.handToBucket
    dsimp only
    split <;> rfl
  generalize s.takeOut p slot c = u at *
  have memory : u.port.mem = (s.store p.outOffset (c.exportBytes p.retire)).port.mem := by rw [frame_]
  obtain ⟨frame, started, waits, _, shown⟩ := waitSave_free (s := u) (by rw [frame_]; exact high) (by rw [memory]; exact wf)
    (by rw [frame_]; exact free) (by rw [frame_]; exact moved) ⟨p, slot, (c.exportBytes p.retire).length⟩
  have record := record_kept shown (fun _ => scannerBytes_block) good fits fun i h => (byteAt_congr memory _).trans (stands i h)
  generalize u.waitSave ⟨p, slot, (c.exportBytes p.retire).length⟩ = t at *
  refine ⟨t, rfl, ?_, ?_, waits, record, ?_⟩
  · rw [frame, frame_]
    rfl
  · rw [started.1, frame]
    rfl
  · exact fun a inside out => (shown a inside fun h => out (.inl h)).trans
      ((byteAt_congr memory a).trans (kept a inside fun h => out (.inr h)))

/-- An accepted UNFIT with no sample waiting for its slot. -/
theorem exec_unfit {s : State} {p : Slip} {slot : Nat} {c : Component} (holds : s.holdsSlip .unfit p)
    (checked : checkUnfit s p = .ok (slot, c)) (none_ : ∀ x ∈ s.samples, x.slot ≠ slot) :
    exec .unfit s = .next ((s.unfit p slot c).2.conclude p (s.unfit p slot c).1) := by
  have settled := settleForUnfit_none (checkUnfit_ok checked).1 none_
  rw [exec_work (c := .unfit) holds rfl, unfitWork_accepted p s slot c (by rw [settled]; exact checked), settled]

/-- Settles O34: the close-out where there is one, the record out, then the wait. -/
theorem unfitExportsAndFreesTheSlot : Obligations.UnfitExportsAndFreesTheSlot := by
  refine ⟨fun s p slot c holds high form free plain checked none_ size => ?_,
    fun s u p slot c e holds high form free retire residue checked none_ closed stands size => ?_,
    fun s p slot found holds names => ?_⟩
  · obtain ⟨_, stands, fits⟩ := checkUnfit_ok checked
    have same : (if p.retire then s.retireSlot slot c else s) = s := by
      rcases plain with keep | plain
      · rw [keep]
        rfl
      · unfold State.retireSlot
        rw [plain]
        exact ite_self s
    have unfitted : s.unfit p slot c = (.wait slot c.exportLength, s.takeOut p slot c) := by
      unfold State.unfit
      simp only [same]
      rw [show s.slotAt slot = some c from stands]
      rfl
    have fits_ : c.exportLength ≤ p.outLength := by
      rcases plain with keep | plain
      · simpa [exportSize, keep] using fits
      · have length : c.exportLength = c.cls.baseLength := by
          unfold Component.exportLength
          rw [points_none plain, Nat.mul_zero, Nat.add_zero]
        have exported : exportSize c p.retire = c.cls.baseLength := by
          unfold exportSize
          rw [length, ite_self]
        rw [length, ← exported]
        exact fits
    obtain ⟨t, eq, frame, slots, waits, record, kept⟩ := takesOut high form free (holdsSlip_moved holds) holds.2.2 size fits_ slot
    refine ⟨t, ?_, ?_, ?_, ?_, ?_, slots, waits, record, kept⟩
    · rw [exec_unfit holds checked none_, unfitted]
      exact congrArg _ eq
    · rw [frame]
    · rw [frame]
    · rw [frame]
      rfl
    · rw [frame]
  · obtain ⟨_, there, fits⟩ := checkUnfit_ok checked
    obtain ⟨r, residue_⟩ := (hasResidue_iff c).1 residue
    have becomes := closeOutSlot_becomes there residue_ (p := if c.cls = .axle then s.tune.axle else s.tune.gearbox.cycle) rfl
    rw [closed] at becomes
    have left := residueBecomes_slotAt becomes slot
    obtain ⟨frame_, _, _⟩ := becomes
    rw [stands, show s.slotAt slot = some c from there, Option.map_some, if_pos rfl] at left
    have record := Option.some.inj left
    have class_ : e.cls = c.cls := by
      have body := congrArg Component.body record
      unfold Component.cls
      rw [body, mapResidue_cls]
    have emptied {q : Residue} (h : e.body.residue = some q) : q.stack = [] ∧ q.candidate = none := by
      rw [record, residue_mapResidue, residue_] at h
      cases h
      exact ⟨rfl, rfl⟩
    have length : e.exportLength = c.cls.baseLength := by
      obtain ⟨q, h⟩ := (hasResidue_iff e).1 (by rw [class_]; exact residue)
      unfold Component.exportLength Body.points
      rw [class_, h]
      simp only [(emptied h).1, List.length_nil, Nat.mul_zero, Nat.add_zero]
    have unfitted : s.unfit p slot c = (.wait slot c.cls.baseLength, u.takeOut p slot e) := by
      have retired : (if p.retire then s.retireSlot slot c else s) = u := by
        rw [if_pos retire, State.retireSlot, if_pos residue]
        exact closed
      unfold State.unfit
      simp only [retired]
      rw [stands, Option.getD_some, length]
    have fits_ : c.cls.baseLength ≤ p.outLength := by
      rw [exportSize, if_pos retire] at fits
      exact fits
    obtain ⟨t, eq, frame, slots, waits, exported, kept⟩ := takesOut (s := u) (by rw [frame_]; exact high) (by rw [frame_]; exact form)
      (by rw [frame_]; exact free) (by rw [frame_]; exact holdsSlip_moved holds) holds.2.2 (c := e) (by rw [retire]; exact size)
      fits_ slot
    rw [retire] at exported
    refine ⟨t, ?_, ?_, fun q => emptied, slots, waits, exported, fun a inside out => (kept a inside out).trans (by rw [frame_]; rfl)⟩
    · rw [exec_unfit holds checked none_, unfitted]
      exact congrArg _ eq
    · rw [class_, if_pos residue] at frame
      have scanner : u.scanner = s.scanner := by rw [frame_]
      rw [frame, scanner]
      rfl
  · intro settled checked
    have frame : settled = { s with
        samples := settled.samples, slots := settled.slots, hires := settled.hires
        port := { s.port with notice := settled.port.notice } } := s.takeWaiting_frame _
    have places : placesOf settled = placesOf s := placesOf_takeWaiting s _
    have samples : s.supply.power = .run → settled.samples = s.samples.filter (fun x => !decide (x.slot = slot)) :=
      s.takeWaiting_samples _
    have rests : s.supply.power ≠ .run → settled = s := s.takeWaiting_rest _
    have settles : s.settleForUnfit p = settled := by
      unfold State.settleForUnfit
      rw [names]
    clear_value settled
    have same : settled.unfitSlot p = s.unfitSlot p := unfitSlot_places (by rw [frame]) (by rw [frame]) places p
    have again : settled.settleForUnfit p = settled := by
      by_cases run : s.supply.power = .run
      · refine settleForUnfit_none (same.trans names) fun x hx => ?_
        rw [samples run, List.mem_filter] at hx
        simpa using hx.2
      · rw [rests run] at settles ⊢
        exact settles
    have holds_ : settled.holdsSlip .unfit p := by
      rw [frame]
      exact holds
    rw [exec_work (c := .unfit) holds rfl, exec_work (c := .unfit) holds_ rfl,
      unfitWork_accepted p s found.1 found.2 (by rw [settles]; exact checked),
      unfitWork_accepted p settled found.1 found.2 (by rw [again]; exact checked), settles, again]

end Sys2Proof.Proofs
end

section
/-! The start monitor: its readings of ENGINE_SPEED, the leaving of each state, the entry to each, as updates of the state. -/
namespace Sys2Proof.Proofs
open Sys2Proof Sys2Proof.Machine

/-! ### Increments as updates -/

/-- The slots after an increment (R7). -/
def landed (slots : List (Option Component)) (inc : Increment) : List (Option Component) :=
  match findSlot slots inc.cls 1 with
  | some i => slots.modify i (fun o => o.map (fun c => { c with body := inc.onBody c.body }))
  | none => slots

theorem land_eq (s : State) (inc : Increment) :
    s.land inc = { s with slots := landed s.slots inc, hires := s.hires.mapCounts (fun c => inc.onCounts c) } := by
  unfold State.land State.landInTable landed
  cases h : findSlot s.slots inc.cls 1 with
  | none =>
    simp only
    rfl
  | some i =>
    simp only
    rfl

theorem slotGains_landed {s t : State} (inc : Increment) (slots : t.slots = landed s.slots inc) {f : Body → Body}
    (body : ∀ b, inc.onBody b = f b) : slotGains s t inc.cls f := by
  have gains := s.land_slots inc
  rw [funext body] at gains
  intro i
  rw [← gains i]
  unfold State.slotAt
  rw [slots, land_eq]

theorem registerGains_mapCounts {s t : State} {f : Counts → Counts} (hires : t.hires = s.hires.mapCounts f) :
    registerGains s t f := by
  constructor
  · intro h open_
    simp [hires, HireRegister.mapCounts, open_]
  · intro closed
    simp [hires, HireRegister.mapCounts, closed]

/-- A count that the register does not keep leaves it as it is. -/
theorem mapCounts_id (h : HireRegister) : h.mapCounts (fun c => c) = h := by
  obtain ⟨hire, bucket, last⟩ := h
  cases hire <;> rfl

/-! ### Readings of ENGINE_SPEED (R73) -/

theorem atRun_true {s : State} (h : s.speedAtRun) : s.atRun = true := (State.atRun_iff s).2 h

theorem atRun_false {s : State} (h : s.speedBelowRun) : s.atRun = false := by
  refine Bool.eq_false_iff.2 fun at_ => ?_
  obtain ⟨known, reached⟩ := (State.atRun_iff s).1 at_
  rcases h with unknown | below
  · exact known unknown
  · omega

theorem atRun_eq (s : State) : s.atRun = decide s.speedAtRun := by
  rw [Bool.eq_iff_iff, decide_eq_true_eq]
  exact State.atRun_iff s

/-! ### The start state set and shown (R88) -/

/-- The start state, and its byte in the control block. -/
def inStart (s : State) (st : StartState) : State :=
  { s with
    monitor := { s.monitor with state := st }
    port := { s.port with mem := memPutAll s.port.mem 0x05 (leBytes 1 st.code) } }

theorem setStart_eq {s : State} (high : s.resetLow = false) (st : StartState) : s.setStart st = inStart s st :=
  State.publish_live _ _ _ high

/-- What a start state put in place shows. -/
theorem inStart_shown {s t : State} (form : s.port.mem.wf) {st : StartState}
    (mem : t.port.mem = memPutAll s.port.mem 0x05 (leBytes 1 st.code)) :
    t.byteAt 0x05 = BitVec.ofNat 8 st.code ∧ bytesKept s t (fun a => a = 0x05) := by
  have same (a : Nat) : t.byteAt a = (s.store 0x05 (leBytes 1 st.code)).byteAt a := byteAt_congr mem a
  refine ⟨?_, fun a inside out => ?_⟩
  · rw [same, byteAt_store form (by simp [Config.memorySize]) (by decide)]
    rfl
  · rw [same, byteAt_store form (by simp [Config.memorySize]) inside, if_neg]
    rw [leBytes_length]
    omega

/-! ### Leaving a state -/

theorem leaveStart_off {s : State} (off : s.monitor.state = .off) :
    s.leaveStart = { s with supply := { s.supply with doze := .stopped } } := by
  simp only [State.leaveStart, off]
  rfl

theorem leaveStart_armed {s : State} (armed : s.monitor.state = .armed) : s.leaveStart = s := by
  simp only [State.leaveStart, armed]

/-- CRANKING left with no warning filter running (R164). -/
theorem leaveStart_cranking {s : State} (cranking : s.monitor.state = .cranking) (filter : s.supply.filter = .stopped) :
    s.leaveStart = { s with monitor := { s.monitor with crankTimer := .stopped } } := by
  simp only [State.leaveStart, cranking, State.filterAfterCrank, State.withMonitor, filter]

theorem leaveStart_catching {s : State} (catching : s.monitor.state = .catching) :
    s.leaveStart = { s with monitor := { s.monitor with catchTimer := .stopped } } := by
  simp only [State.leaveStart, catching]
  rfl

/-- RUNNING left with no engagement window open (R97, R98, R104). -/
theorem leaveStart_running {s : State} (running : s.monitor.state = .running) (closed : s.duty.window = none) :
    s.leaveStart = { s with
      monitor := { s.monitor with stopTimer := .stopped }
      duty := { s.duty with ptoAbove := false, overspeedCount := none } } := by
  simp only [State.leaveStart, running, State.dutyLeavesRunning, State.closeWindow, State.withMonitor, closed]
  rfl

/-! ### Entries -/

theorem moveStart_eq {s t : State} {st : StartState} (high : t.resetLow = false) (leaves : s.leaveStart = t) (other : st ≠ .off) :
    s.moveStart st = inStart t st := by
  unfold State.moveStart
  rw [leaves, setStart_eq high]
  exact if_neg other

/-- The doze timer at an entry to OFF (R166). -/
def dozing (s : State) : Supply := if s.supply.power = .run then { s.supply with doze := .running 30000 } else s.supply

/-- An entry to OFF with the journal free (R81, R166): the checkpoint holds the state as it stands. -/
theorem offEntered_free {s : State} (free : s.journalFree) : ∃ j, s.offEntered = { s with supply := dozing s, journal := j }
    ∧ j.startedFrom s ∧ j.waiting = s.journal.waiting.map (fun _ => true) := by
  unfold State.offEntered dozing
  by_cases run : s.supply.power = .run
  · obtain ⟨frame, started, waits⟩ := (s.withSupply { s.supply with doze := .running 30000 }).trigger_free free
    simp only [if_pos run]
    exact ⟨_, frame, started, waits⟩
  · obtain ⟨frame, started, waits⟩ := s.trigger_free free
    simp only [if_neg run]
    exact ⟨_, frame, started, waits⟩

/-- OFF entered with the journal free, the speed below the run threshold (R76, R81). -/
theorem enterIdle_off {s t : State} (high : t.resetLow = false) (leaves : s.leaveStart = t) (free : t.journalFree)
    (below : t.speedBelowRun) : ∃ j, s.enterIdle .off = { inStart t .off with supply := dozing t, journal := j }
      ∧ j.startedFrom t ∧ j.waiting = t.journal.waiting.map (fun _ => true) := by
  obtain ⟨j, entered, started, waits⟩ := offEntered_free (s := inStart t .off) free
  refine ⟨j, ?_, started, waits⟩
  unfold State.enterIdle State.moveStart
  rw [leaves, setStart_eq high, if_pos rfl, entered]
  exact if_neg (Bool.eq_false_iff.1 (atRun_false below))

/-- ARMED entered with the speed below the run threshold (R76, R79). -/
theorem enterIdle_armed {s t : State} (high : t.resetLow = false) (leaves : s.leaveStart = t) (below : t.speedBelowRun) :
    s.enterIdle .armed = inStart t .armed := by
  unfold State.enterIdle
  rw [moveStart_eq (st := .armed) high leaves nofun]
  exact if_neg (Bool.eq_false_iff.1 (atRun_false (s := inStart t .armed) below))

theorem reactIdle_below {s : State} (below : s.speedBelowRun) : s.reactIdle = s :=
  if_neg (Bool.eq_false_iff.1 (atRun_false below))

/-! ### RUNNING and ENGINE_SPEED (R80) -/

theorem known_iff (r : QRecord) : r.known = true ↔ r.age ≠ .unknown := decide_eq_true_iff

theorem reactRunning_known {s : State} (known : s.board.engineSpeed.age ≠ .unknown) :
    s.reactRunning = { s with monitor := { s.monitor with
      stopTimer := if s.board.engineSpeed.value < s.tune.start.stop then
          (if s.monitor.stopTimer.isRunning then s.monitor.stopTimer else .running 1000)
        else .stopped } } := by
  have knows := (known_iff s.board.engineSpeed).2 known
  have below : s.belowStop = decide (s.board.engineSpeed.value < s.tune.start.stop) := by
    unfold State.belowStop
    rw [knows, Bool.true_and]
  unfold State.reactRunning
  rw [knows, below]
  by_cases slow : s.board.engineSpeed.value < s.tune.start.stop
  · by_cases runs : s.monitor.stopTimer.isRunning = true <;> simp [slow, runs, State.withMonitor]
  · simp [slow, State.withMonitor]

theorem reactRunning_unknown {s : State} (unknown : s.board.engineSpeed.age = .unknown) :
    s.reactRunning = if s.lines.ign.level then { s with monitor := { s.monitor with stopTimer := .stopped } } else s.confirmStop := by
  unfold State.reactRunning
  rw [show s.board.engineSpeed.known = false from decide_eq_false (not_not_intro unknown)]
  rfl

end Sys2Proof.Proofs
end

section
/-! The timers of the start monitor (R78 to R81). -/
namespace Sys2Proof.Proofs
open Sys2Proof Sys2Proof.Machine

/-- A stop confirmed (R81), with no engagement window open. -/
theorem confirmStop_leaves {s : State} (running : s.monitor.state = .running) (closed : s.duty.window = none) :
    (s.withMonitor { s.monitor with lastStop := some s.now }).leaveStart = { s with
      monitor := { s.monitor with lastStop := some s.supply.recorderTime, stopTimer := .stopped }
      duty := { s.duty with ptoAbove := false, overspeedCount := none } } :=
  leaveStart_running (s := s.withMonitor { s.monitor with lastStop := some s.now }) running closed

/-- Settles O50: each timer by its row. -/
theorem monitorTimersExpire : Obligations.MonitorTimersExpire := by
  intro s live form
  have acts (f : State → State) : s.act f = .next (f s) := act_on live.1 f
  refine ⟨fun ms cranking unmarked running => ?_, fun marked => ?_, fun ms below catching running => ?_,
    fun ms below running timer closed run => ?_⟩
  · have counts : longCrank s = { s with
        slots := landed s.slots .longCrank, hires := s.hires.mapCounts (fun c => Increment.onCounts c .longCrank)
        monitor := { s.monitor with longMark := true }
        port := { s.port with notice := s.port.notice ||| 0x100 } } := by
      unfold longCrank
      rw [if_pos ⟨cranking, by simp [unmarked], by rw [running]; rfl⟩, land_eq]
      exact State.setNotice_live _ _ live.2
    refine ⟨_, acts longCrank, ?_⟩
    rw [counts]
    exact ⟨rfl, slotGains_landed .longCrank rfl (fun b => by cases b <;> rfl), registerGains_mapCounts rfl⟩
  · refine (acts longCrank).trans (congrArg _ (if_neg fun h => ?_))
    simp [marked] at h
  · have fails : catchTimerExpiry s = inStart { s with
        slots := landed s.slots .failedCrank, hires := s.hires.mapCounts (fun c => Increment.onCounts c .failedCrank)
        monitor := { s.monitor with catchTimer := .stopped } } .armed := by
      unfold catchTimerExpiry State.failCrank
      rw [if_pos ⟨catching, by rw [running]; rfl⟩, land_eq]
      exact enterIdle_armed live.2 (leaveStart_catching catching) below
    obtain ⟨state, kept⟩ := inStart_shown (t := catchTimerExpiry s) form (st := .armed) (by rw [fails]; rfl)
    refine ⟨_, acts catchTimerExpiry, ?_, ?_, ?_, state, kept⟩
    · rw [fails]
      rfl
    · exact slotGains_landed .failedCrank (by rw [fails]; rfl) (fun b => by cases b <;> rfl)
    · exact registerGains_mapCounts (by rw [fails]; rfl)
  · intro duty stopped
    have leaves := confirmStop_leaves running closed
    have expires : stopTimerExpiry s = s.confirmStop.reactIdle := by
      unfold stopTimerExpiry
      rw [if_pos ⟨running, by rw [timer]; rfl⟩]
    have confirm : s.confirmStop.reactIdle =
        (s.withMonitor { s.monitor with lastStop := some s.now }).enterIdle (if s.lines.ign.level then .armed else .off) := rfl
    refine ⟨fun on => ?_, fun off free => ?_⟩
    · rw [on] at confirm
      have arms := expires.trans (confirm.trans (enterIdle_armed (by exact live.2) leaves (by exact below)))
      obtain ⟨state, kept⟩ := inStart_shown (t := stopTimerExpiry s) form (st := .armed) (by rw [arms]; rfl)
      refine ⟨_, acts stopTimerExpiry, ?_, state, kept⟩
      rw [arms]
      rfl
    · rw [off] at confirm
      obtain ⟨j, entered, started, waits⟩ := enterIdle_off (by exact live.2) leaves (by exact free) (by exact below)
      have rests := expires.trans (confirm.trans entered)
      obtain ⟨state, kept⟩ := inStart_shown (t := stopTimerExpiry s) form (st := .off) (by rw [rests]; rfl)
      have journal : (stopTimerExpiry s).journal = j := by rw [rests]
      refine ⟨_, acts stopTimerExpiry, ?_, by rw [journal]; exact started, by rw [journal]; exact waits, state, kept⟩
      rw [rests, dozing, if_pos (by exact run)]
      rfl

end Sys2Proof.Proofs
end

section
/-! The ageing of the quantity records (R22, R34, R35, R37). -/
namespace Sys2Proof.Proofs
open Sys2Proof Sys2Proof.Machine

theorem speedHandOn_hold {s : State} (hold : s.supply.power = .hold) : s.speedHandOn = s := if_pos hold

/-- A record lost shows zeros (R35). -/
theorem unknown_bytes {i : Nat} (h : i < 12) : QRecord.unknown.bytes.getD i 0 = 0 := by
  have all : ∀ i : Fin 12, QRecord.unknown.bytes.getD i.val 0 = 0 := by decide
  exact all ⟨i, h⟩

theorem putUnknown_zeros {s : State} (form : s.port.mem.wf) (high : s.resetLow = false) (q : Quantity) {a : Nat}
    (h : within (0x50 + 12 * quantityIndex q) 12 a) : (s.putRecord q .unknown).byteAt a = 0 := by
  obtain ⟨low, top⟩ := h
  have byte := putRecord_byteAt form high q .unknown (i := a - (0x50 + 12 * quantityIndex q)) (by omega)
  rw [Nat.add_sub_cancel' low] at byte
  rw [byte]
  exact unknown_bytes (by omega)

/-- A gear that is UNKNOWN counts no shift (R96). -/
theorem dutyGear_unknown {s : State} (unknown : s.board.gear.age = .unknown) : s.dutyGear = s := by
  refine if_neg fun h => ?_
  have gear := h.2
  unfold Board.inGear QRecord.known at gear
  rw [unknown] at gear
  cases gear

/-- A record lost, with QUANTITY (R37), before any hand-on. -/
def lostRecord (s : State) (q : Quantity) : State :=
  { s.putRecord q .unknown with port := { (s.putRecord q .unknown).port with notice := s.port.notice ||| 0x80 } }

theorem lostRecord_eq {s : State} (high : s.resetLow = false) (q : Quantity) :
    (s.putRecord q .unknown).setNotice .quantity = lostRecord s q := by
  have frame := putRecord_frame s q .unknown
  rw [State.setNotice_live _ _ (by rw [frame]; exact high)]
  unfold lostRecord
  rw [frame]
  rfl

theorem lostRecord_frame (s : State) (q : Quantity) : lostRecord s q = { s with
    board := s.board.set q .unknown
    port := { s.port with mem := (lostRecord s q).port.mem, notice := s.port.notice ||| 0x80 } } := by
  unfold lostRecord
  rw [putRecord_frame]

/-- What is lost with a record, and handed on to the cycle counter. -/
def lostAndHanded (s : State) (q : Quantity) : State :=
  if q = .clutch ∨ q = .gear then (lostRecord s q).cycleHandOn else lostRecord s q

theorem lostAndHanded_frame (s : State) (q : Quantity) : lostAndHanded s q = { lostRecord s q with
    samples := (lostAndHanded s q).samples } := by
  unfold lostAndHanded
  split
  · exact State.cycleHandOn_frame _
  · rfl

theorem loseQuantity_eq {s : State} (high : s.resetLow = false) (q : Quantity) : s.loseQuantity q =
    if q = .engineSpeed then (lostAndHanded s q).speedHandOn else if q = .clutch then (lostAndHanded s q).evaluateGear
      else lostAndHanded s q := by
  have base := lostRecord_eq high q
  cases q with
  | engineSpeed =>
    show ((s.putRecord _ .unknown).setNotice .quantity).speedHandOn = _
    rw [base]
    rfl
  | clutch =>
    show ((s.putRecord _ .unknown).setNotice .quantity).cycleHandOn.evaluateGear = _
    rw [base]
    rfl
  | gear =>
    show ((s.putRecord _ .unknown).setNotice .quantity).cycleHandOn.dutyGear = _
    rw [base]
    refine dutyGear_unknown ?_
    rw [State.cycleHandOn_frame, lostRecord_frame]
    rfl
  | _ => exact base

/-- Settles O49: the record ages, and its change is handed on. -/
theorem recordsAge : Obligations.RecordsAge := by
  intro q s live form r place lost
  have acts (f : State → State) : s.act f = .next (f s) := act_on live.1 f
  refine ⟨fun fresh other => ?_, fun held => ?_, fun other => (acts _).trans (congrArg _ (if_neg other)),
    fun other => (acts _).trans (congrArg _ (if_neg other))⟩
  · have ages : freshTimerExpiry q s = s.putRecord q { r with age := .held } := by
      unfold freshTimerExpiry
      rw [if_pos fresh]
      dsimp only
      split
      next speed =>
        exact speedHandOn_hold (by rw [putRecord_frame]; exact other.resolve_left fun h => h speed)
      next => rfl
    refine ⟨_, acts (freshTimerExpiry q), ?_⟩
    rw [ages]
    exact ⟨putRecord_frame s q _, by
      have byte := putRecord_byteAt form live.2 q { r with age := .held } (i := 2) (by decide)
      rw [show 0x52 + 12 * quantityIndex q = 0x50 + 12 * quantityIndex q + 2 by omega, byte]
      rfl, putRecord_kept form q _⟩
  · have expires : heldTimerExpiry q s = s.loseQuantity q := if_pos held
    have memory (a : Nat) : (lostAndHanded s q).byteAt a = (s.putRecord q .unknown).byteAt a := by
      rw [lostAndHanded_frame]
      rfl
    refine ⟨lostAndHanded s q, ?_, fun a inside => ?_, fun a inside out => ?_, fun handed => ?_, fun notClutch notGear => ?_, ?_⟩
    · rw [lostAndHanded_frame, lostRecord_frame]
      rfl
    · rw [memory]
      exact putUnknown_zeros form live.2 q inside
    · rw [memory]
      exact putRecord_kept form q .unknown a inside out
    · have feeds := cycleHandOn_feeds (lostRecord s q)
      unfold lostAndHanded
      rw [if_pos handed]
      generalize (lostRecord s q).cycleHandOn.samples = samples at feeds ⊢
      rw [lostRecord_frame] at feeds
      exact feeds
    · unfold lostAndHanded
      rw [if_neg (by simp [notClutch, notGear]), lostRecord_frame]
    · refine (acts _).trans ?_
      rw [expires, loseQuantity_eq live.2]
      by_cases speed : q = .engineSpeed
      · by_cases hold : s.supply.power = .hold
        · rw [if_pos speed, if_neg (by simp [hold]), if_neg (by simp [speed])]
          exact congrArg _ (speedHandOn_hold (by rw [lostAndHanded_frame, lostRecord_frame]; exact hold))
        · rw [if_pos speed, if_pos ⟨speed, hold⟩]
      · rw [if_neg speed, if_neg (c := q = .engineSpeed ∧ s.supply.power ≠ .hold) fun h => speed h.1]

end Sys2Proof.Proofs
end

section
/-! The entry to DOZE at every block (R23, R166), and the expiry of the doze timer. -/
namespace Sys2Proof.Proofs
open Sys2Proof Sys2Proof.Machine

/-! ### The board at the entry to DOZE (R23, R35) -/

/-- The records that the entry to DOZE loses. -/
def lostQuantities (b : Board) : List Quantity := allQuantities.filter (fun q => (b.get q).known)

theorem mem_lostQuantities {b : Board} {q : Quantity} : q ∈ lostQuantities b ↔ (b.get q).age ≠ .unknown := by
  unfold lostQuantities
  rw [List.mem_filter, known_iff]
  exact and_iff_right (by cases q <;> decide)

/-- The mirrors of some quantities. -/
def mirrors (among : List Quantity) (a : Nat) : Prop := ∃ q ∈ among, within (0x50 + 12 * quantityIndex q) 12 a

/-- A record that is UNKNOWN rewritten: zeros in its mirror, the rest as it stood (R35). -/
theorem publishRecord_unknown {s : State} (form : s.port.mem.wf) (high : s.resetLow = false) {q : Quantity}
    (unknown : s.board.get q = .unknown) {a : Nat} (inside : a < 0x8000) :
    (s.publishRecord q).byteAt a = 0 ∧ within (0x50 + 12 * quantityIndex q) 12 a
      ∨ (s.publishRecord q).byteAt a = s.byteAt a ∧ ¬ within (0x50 + 12 * quantityIndex q) 12 a := by
  have low := quantityIndex_lt q
  unfold State.publishRecord
  rw [byteAt_publish form high (by rw [QRecord.bytes_length]; unfold Config.memorySize; omega) inside, unknown, QRecord.bytes_length]
  by_cases mirror : within (0x50 + 12 * quantityIndex q) 12 a
  · obtain ⟨from_, below⟩ := mirror
    rw [if_pos ⟨from_, below⟩]
    exact .inl ⟨unknown_bytes (by omega), from_, below⟩
  · exact .inr ⟨if_neg mirror, mirror⟩

theorem publishRecords_unknown (among : List Quantity) : ∀ {s : State}, s.port.mem.wf → s.resetLow = false → s.board = .powerOn →
    ∀ a < 0x8000, (mirrors among a → (s.publishRecords among).byteAt a = 0)
      ∧ (¬ mirrors among a → (s.publishRecords among).byteAt a = s.byteAt a) := by
  induction among with
  | nil => exact fun _ _ _ a _ => ⟨nofun, fun _ => rfl⟩
  | cons q rest ih =>
    intro s form high blank a inside
    have first := publishRecord_unknown form high (q := q) (by rw [blank]; cases q <;> rfl) inside
    have frame : s.publishRecord q = { s with port := { s.port with mem := (s.publishRecord q).port.mem } } := s.publish_frame _ _
    have next := ih (s := s.publishRecord q) (s.publish_wf _ _ form) (by rw [frame]; exact high) (by rw [frame]; exact blank)
      a inside
    have split : mirrors (q :: rest) a ↔ within (0x50 + 12 * quantityIndex q) 12 a ∨ mirrors rest a := by
      simp [mirrors]
    rw [split]
    change (_ → ((s.publishRecord q).publishRecords rest).byteAt a = 0) ∧ (_ → ((s.publishRecord q).publishRecords rest).byteAt a = _)
    by_cases later : mirrors rest a
    · exact ⟨fun _ => next.1 later, fun out => absurd (.inr later) out⟩
    · rw [next.2 later]
      rcases first with ⟨zero, mirror⟩ | ⟨same, out⟩
      · exact ⟨fun _ => zero, fun other => absurd (.inl mirror) other⟩
      · exact ⟨fun inside => absurd (inside.resolve_right later) out, fun _ => same⟩

/-- With the monitor OFF and ENGINE_SPEED unknown a hand-on of it does nothing (R73, R76). -/
theorem speedHandOn_off {s : State} (off : s.monitor.state = .off) (unknown : s.board.engineSpeed.age = .unknown) :
    s.speedHandOn = s := by
  refine atMonitor_same ?_
  have idle : s.react = s := by
    unfold State.react
    rw [off]
    exact reactIdle_below (.inl unknown)
  rw [idle]
  exact if_neg (by rw [unknown]; decide)

/-- The entry to DOZE at every block but the board. -/
def dozeBase (s : State) : State :=
  { s.store 0x04 [1] with
    supply := { s.supply with power := .doze, doze := .stopped }
    duty := { s.duty with quantumTimer := .stopped }
    scanner := { s.scanner with selfPoll := .stopped }
    pulse := { s.pulse.each (fun c => { c with edges := 0, mark := false }) with windows := false }
    sensor := if s.sensor.state = .lockedOff then s.sensor else ⟨.off, s.sensor.retry, .stopped, .stopped⟩
    journal := { s.journal with period := s.journal.period.freeze } }

theorem enterDoze_base {s : State} (high : s.resetLow = false) : s.enterDoze = (dozeBase s).boardEnterDoze := by
  unfold State.enterDoze State.setPower State.publishPower
  dsimp only
  rw [State.publish_live _ _ _ (by exact high), sensorRest_eq (by rfl)]
  rfl

theorem dozeBase_shown {s : State} (form : s.port.mem.wf) :
    (dozeBase s).byteAt 0x04 = 1 ∧ bytesKept s (dozeBase s) (fun a => a = 0x04) := by
  have first := byteAt_store (bytes := [1]) (a := 0x04) (c := 0x04) form (by simp [Config.memorySize]) (by simp [Config.memorySize])
  refine ⟨first, fun a inside out => ?_⟩
  refine (byteAt_store (bytes := [1]) (a := 0x04) (c := a) form (by simp [Config.memorySize]) inside).trans (if_neg ?_)
  simp only [List.length_singleton]
  omega

/-- The board at the entry to DOZE, the monitor OFF (R23). -/
theorem boardEnterDoze_off {s : State} (form : s.port.mem.wf) (high : s.resetLow = false) (off : s.monitor.state = .off) :
    ∃ t, s.boardEnterDoze = t
      ∧ t = { s with
          board := .powerOn
          port := { s.port with
            mem := t.port.mem, notice := if (lostQuantities s.board).isEmpty then s.port.notice else s.port.notice ||| 0x80 } }
      ∧ ∀ a < 0x8000, (mirrors (lostQuantities s.board) a → t.byteAt a = 0)
        ∧ (¬ mirrors (lostQuantities s.board) a → t.byteAt a = s.byteAt a) := by
  have shown := publishRecords_unknown (lostQuantities s.board) (s := s.withBoard .powerOn) form high rfl
  have frame := State.publishRecords_frame (lostQuantities s.board) (s.withBoard .powerOn)
  have unfolded : s.boardEnterDoze =
      (let t := (s.withBoard .powerOn).publishRecords (lostQuantities s.board)
       let u := if (lostQuantities s.board).isEmpty then t else t.setNotice .quantity
       if s.board.engineSpeed.known then u.speedHandOn else u) := rfl
  rw [unfolded]
  generalize (s.withBoard .powerOn).publishRecords (lostQuantities s.board) = t at *
  have noticed : (if (lostQuantities s.board).isEmpty then t else t.setNotice .quantity) = { t with port := { t.port with
      notice := if (lostQuantities s.board).isEmpty then t.port.notice else t.port.notice ||| 0x80 } } := by
    split
    · rfl
    · exact State.setNotice_live _ _ (by rw [frame]; exact high)
  dsimp only
  rw [noticed, speedHandOn_off (by rw [frame]; exact off) (by rw [frame]; rfl), ite_self]
  exact ⟨_, rfl, by rw [frame]; rfl, shown⟩

/-- The entry to DOZE with the monitor OFF (R166). -/
theorem enterDoze_off {s : State} (form : s.port.mem.wf) (high : s.resetLow = false) (off : s.monitor.state = .off) :
    ∃ t, s.enterDoze = t
      ∧ t = { s with
          supply := { s.supply with power := .doze, doze := .stopped }
          duty := { s.duty with quantumTimer := .stopped }
          scanner := { s.scanner with selfPoll := .stopped }
          pulse := { s.pulse.each (fun c => { c with edges := 0, mark := false }) with windows := false }
          sensor := if s.sensor.state = .lockedOff then s.sensor else ⟨.off, s.sensor.retry, .stopped, .stopped⟩
          journal := { s.journal with period := s.journal.period.freeze }
          board := .powerOn
          port := { s.port with mem := t.port.mem, notice := t.port.notice } }
      ∧ ((∃ q, (s.board.get q).age ≠ .unknown) → t.port.notice = s.port.notice ||| 0x80)
      ∧ ((∀ q, (s.board.get q).age = .unknown) → t.port.notice = s.port.notice)
      ∧ t.byteAt 0x04 = 1
      ∧ (∀ q a, (s.board.get q).age ≠ .unknown → within (0x50 + 12 * quantityIndex q) 12 a → t.byteAt a = 0)
      ∧ bytesKept s t (fun a => a = 0x04
        ∨ ∃ q, (s.board.get q).age ≠ .unknown ∧ within (0x50 + 12 * quantityIndex q) 12 a) := by
  obtain ⟨power, kept⟩ := dozeBase_shown form
  obtain ⟨t, entered, frame, shown⟩ := boardEnterDoze_off (s := dozeBase s) (State.store_mem_wf s 0x04 [1] form) high off
  change t = { dozeBase s with
      board := .powerOn
      port := { (dozeBase s).port with
        mem := t.port.mem, notice := if (lostQuantities s.board).isEmpty then s.port.notice else s.port.notice ||| 0x80 } } at frame
  change ∀ a < 0x8000, (mirrors (lostQuantities s.board) a → _) ∧ (¬ mirrors (lostQuantities s.board) a → _) at shown
  have notice := congrArg (fun u => u.port.notice) frame
  refine ⟨t, (enterDoze_base high).trans entered, ?_, fun ⟨q, known⟩ => ?_, fun unknown => ?_, ?_, fun q a known mirror => ?_,
    fun a inside out => ?_⟩
  · rw [frame]
    rfl
  · rw [notice]
    exact if_neg (by rw [List.isEmpty_iff]; exact List.ne_nil_of_mem (mem_lostQuantities.2 known))
  · rw [notice]
    refine if_pos (List.isEmpty_iff.2 (List.eq_nil_iff_forall_not_mem.2 fun q lost => mem_lostQuantities.1 lost (unknown q)))
  · rw [(shown 4 (by omega)).2 ?_, power]
    rintro ⟨q, _, mirror, _⟩
    omega
  · have low := quantityIndex_lt q
    obtain ⟨from_, below⟩ := mirror
    exact (shown a (by omega)).1 ⟨q, mem_lostQuantities.2 known, from_, below⟩
  · rw [(shown a inside).2 fun ⟨q, lost, mirror⟩ => out (.inr ⟨q, mem_lostQuantities.1 lost, mirror⟩)]
    exact kept a inside fun same => out (.inl same)

/-- Settles O54: the timer starts again under a turning PTO, or the part enters DOZE. -/
theorem dozeTimerExpires : Obligations.DozeTimerExpires := by
  intro s ms live form run timer ign off
  have runs : s.supply.power = .run ∧ s.supply.doze.isRunning ∧ ¬ s.ignOn ∧ s.monitor.state = .off :=
    ⟨run, by rw [timer]; rfl, by rw [State.ignOn, ign]; decide, off⟩
  have expires : dozeTimerExpiry s = if s.board.ptoSpeed.known ∧ 100 < s.board.ptoSpeed.value then
      s.withSupply { s.supply with doze := .running 30000 } else s.takeAllWaiting.enterDoze := if_pos runs
  have acts : exec .dozeTimerExpiry s = .next (dozeTimerExpiry s) := act_on live.1 _
  rw [acts, expires]
  refine ⟨fun known turning => ?_, fun still => ?_⟩
  · rw [if_pos ⟨(known_iff _).2 known, turning⟩]
    rfl
  · rw [if_neg fun h => ?_]
    · intro taken
      have none_ : taken.samples = [] := (s.takeWaiting_samples _ run).trans (by simp)
      have frame : taken = { s with
          samples := taken.samples, slots := taken.slots, hires := taken.hires
          port := { s.port with notice := taken.port.notice } } := s.takeWaiting_frame _
      change ∃ t, Host.Outcome.next taken.enterDoze = .next t ∧ _
      clear_value taken
      rw [none_] at frame
      obtain ⟨t, entered, moved, lost, kept_, power, zeros, kept⟩ := enterDoze_off (s := taken) (by rw [frame]; exact form)
        (by rw [frame]; exact live.2) (by rw [frame]; exact off)
      have board : taken.board = s.board := by rw [frame]
      have same (a : Nat) : taken.byteAt a = s.byteAt a := by rw [frame]; rfl
      rw [board] at lost kept_ zeros kept
      refine ⟨t, congrArg _ entered, ?_, lost, kept_, power, zeros, fun a inside out => (kept a inside out).trans (same a)⟩
      rw [moved, frame]
    · rcases still with unknown | slow
      · exact (known_iff _).1 h.1 unknown
      · omega

end Sys2Proof.Proofs
end

section
/-! The leave of DEPOT (R157), and the entries to CRANKING and RUNNING, as updates of the state. -/
namespace Sys2Proof.Proofs
open Sys2Proof Sys2Proof.Machine

/-! ### A trigger, by the journal it finds (R169, R171) -/

/-- What a trigger leaves of a part, by the journal it finds. -/
structure Triggered (s t : State) (torn : BitVec 12) : Prop where
  frame : t = { s with journal := t.journal, port := { s.port with notice := s.port.notice ||| torn } }
  free : s.journalFree → t.journal.startedFrom s ∧ t.journal.waiting = s.journal.waiting.map (fun _ => true)
  busy : s.journal.writing ≠ none ∨ s.supply.power = .hold → t.journal = { s.journal with another := true }
  spent : s.sequenceSpent → t.journal = s.givenUp (s.journal.waiting.map (fun _ => false))

theorem journalFree_not_spent {s : State} (free : s.journalFree) : ¬ s.sequenceSpent := by
  obtain ⟨_, _, left⟩ := free
  rintro ⟨_, _, spent⟩
  unfold lastSequence ceilingOf at left
  omega

theorem trigger_triggered {s : State} (high : s.resetLow = false)
    (journal : s.journalFree ∨ s.journal.writing ≠ none ∨ s.supply.power = .hold ∨ s.sequenceSpent) :
    Triggered s s.trigger (if s.sequenceSpent then 4 else 0) := by
  have unset : s.port.notice ||| 0 = s.port.notice := BitVec.or_zero
  by_cases spent : s.sequenceSpent
  · obtain ⟨idle, out, last⟩ := spent
    have given := (trigger_starts idle out).trans (startCheckpoint_spent high idle last)
    rw [if_pos ⟨idle, out, last⟩]
    exact ⟨by rw [given], fun free => absurd ⟨idle, out, last⟩ (journalFree_not_spent free),
      fun busy => (busy.elim (absurd idle) (fun h => absurd h out)), fun _ => by rw [given]⟩
  · rw [if_neg spent]
    by_cases free : s.journalFree
    · obtain ⟨frame, started, waits⟩ := s.trigger_free free
      refine ⟨by rw [unset]; exact frame, fun _ => ⟨started, waits⟩, fun busy => ?_, fun h => absurd h spent⟩
      exact busy.elim (absurd free.1) (fun h => absurd h free.2.1)
    · have busy : s.journal.writing ≠ none ∨ s.supply.power = .hold := by
        rcases journal with h | h | h | h
        · exact absurd h free
        · exact .inl h
        · exact .inr h
        · exact absurd h spent
      have pending := s.trigger_busy busy
      exact ⟨by rw [unset, pending], fun h => absurd h free, fun _ => by rw [pending], fun h => absurd h spent⟩

/-! ### The leave of DEPOT (R157) -/

theorem depotAutoLeave_normal {s : State} (normal : s.depot.state = .normal) : s.depotAutoLeave = s :=
  if_neg (by rw [normal]; decide)

/-- What a leave of DEPOT of its own leaves of a part. -/
structure AutoLeft (s t : State) : Prop where
  frame : t = { s with
    depot := { s.depot with state := .normal, timer := .stopped }
    journal := t.journal
    port := { s.port with mem := t.port.mem, notice := s.port.notice ||| (if s.sequenceSpent then 0x404 else 0x400) } }
  free : s.journalFree → t.journal.startedFrom s ∧ t.journal.waiting = s.journal.waiting.map (fun _ => true)
  busy : s.journal.writing ≠ none ∨ s.supply.power = .hold → t.journal = { s.journal with another := true }
  spent : s.sequenceSpent → t.journal = s.givenUp (s.journal.waiting.map (fun _ => false))
  shown : t.byteAt 0x06 = 0
  kept : bytesKept s t (within 0x06 2)

theorem depotAutoLeave_left {s : State} (form : s.port.mem.wf) (high : s.resetLow = false) (depot : s.depot.state = .depot)
    (journal : s.journalFree ∨ s.journal.writing ≠ none ∨ s.supply.power = .hold ∨ s.sequenceSpent) :
    AutoLeft s s.depotAutoLeave := by
  obtain ⟨frame, _, state, _, kept⟩ := publishDepot_shown
    (s := s.withDepot { s.depot with state := .normal, timer := .stopped }) form high
  have leaves : s.depotAutoLeave =
      ((s.withDepot { s.depot with state := .normal, timer := .stopped }).publishDepot.setNotice .depot).trigger := if_pos depot
  generalize (s.withDepot { s.depot with state := .normal, timer := .stopped }).publishDepot = u at *
  rw [State.setNotice_live _ _ (by rw [frame]; exact high)] at leaves
  have noticed : ({ u with port := { u.port with notice := u.port.notice ||| Notice.depot.mask } } : State) = { s with
      depot := { s.depot with state := .normal, timer := .stopped }
      port := { s.port with mem := u.port.mem, notice := s.port.notice ||| 0x400 } } := by
    rw [frame]
    rfl
  rw [noticed] at leaves
  have triggered := trigger_triggered (s := { s with
      depot := { s.depot with state := .normal, timer := .stopped }
      port := { s.port with mem := u.port.mem, notice := s.port.notice ||| 0x400 } }) high journal
  rw [← leaves] at triggered
  obtain ⟨moved, free, busy, spent⟩ := triggered
  have both : (s.port.notice ||| 0x400) ||| (if s.sequenceSpent then 4 else 0)
      = s.port.notice ||| (if s.sequenceSpent then 0x404 else 0x400) := by
    rw [BitVec.or_assoc]
    congr 1
    split <;> rfl
  have memory : s.depotAutoLeave.port.mem = u.port.mem := by rw [moved]
  refine ⟨?_, free, busy, spent, ?_, fun a inside out => ?_⟩
  · rw [moved]
    exact congrArg (fun n => ({ s with
      depot := { s.depot with state := .normal, timer := .stopped }, journal := s.depotAutoLeave.journal
      port := { s.port with mem := u.port.mem, notice := n } } : State)) both
  · exact (byteAt_congr memory _).trans state
  · exact (byteAt_congr memory a).trans (kept a inside out)

/-! ### Starts (R82, R83) -/

/-- The part with a start counted and classified. -/
def counted (s : State) (inc : Increment) : State :=
  { s with slots := landed s.slots inc, hires := s.hires.mapCounts (fun c => inc.onCounts c) }

/-- The body with a start of its class. -/
def startBody (f : StartCounts → StartCounts) : Body → Body
  | .engine b => .engine { b with starts := f b.starts }
  | b => b

/-- A start counted now is HOT by the time since the last stop (R82). -/
def startsHot (s : State) : Bool := s.monitor.lastStop.any (fun l => decide (s.now - l < 10 * s.tune.start.hotWindow))

/-- A start counted now is COLD by the coolant, unless it is HOT (R82). -/
def startsCold (s : State) : Bool := s.board.coolantTemp.known && decide (s.board.coolantTemp.value < s.tune.start.coldLimit)

theorem classifyStart_eq (s : State) :
    s.classifyStart = if startsHot s then .hot else if startsCold s then .cold else .warm := by
  unfold State.classifyStart startsHot startsCold
  cases s.monitor.lastStop <;> rfl

theorem startCounted_eq (s : State) (c : StartCounts) : c.bump s.classifyStart = startCounted s c := by
  have hot : (∃ l ∈ s.monitor.lastStop, s.supply.recorderTime - l < 10 * s.tune.start.hotWindow) ↔ startsHot s = true := by
    unfold startsHot
    cases s.monitor.lastStop with
    | none => simp
    | some l =>
      simp only [Option.mem_def, Option.some.injEq, exists_eq_left', Option.any_some, decide_eq_true_eq]
      rfl
  have cold : (s.board.coolantTemp.age ≠ .unknown ∧ s.board.coolantTemp.value < s.tune.start.coldLimit) ↔ startsCold s = true := by
    unfold startsCold
    rw [Bool.and_eq_true, known_iff, decide_eq_true_eq]
  unfold startCounted
  dsimp only
  rw [classifyStart_eq, if_congr hot rfl rfl, if_congr cold rfl rfl]
  cases startsHot s <;> cases startsCold s <;> rfl

theorem countStart_eq (s : State) : s.countStart = counted s (.start s.classifyStart) := land_eq s _

theorem counted_start_gains {s t : State} {cls : StartClass} {f : StartCounts → StartCounts} (bump : ∀ c : StartCounts, c.bump cls = f c)
    (slots : t.slots = (counted s (.start cls)).slots) (hires : t.hires = (counted s (.start cls)).hires) :
    slotGains s t .engine (startBody f) ∧ registerGains s t (fun c => { c with starts := f c.starts }) := by
  refine ⟨slotGains_landed (.start cls) slots fun b => ?_, registerGains_mapCounts ?_⟩
  · cases b with
    | engine b => exact congrArg (fun c => Body.engine { b with starts := c }) (bump _)
    | _ => rfl
  · rw [hires]
    exact congrArg (HireRegister.mapCounts s.hires) (funext fun c => congrArg (fun n => { c with starts := n }) (bump _))

/-! ### RUNNING entered (R76, R78, R79) -/

/-- The stop timer at an entry to RUNNING, the speed known (R80). -/
def stopBegins (s : State) : Timer := if s.board.engineSpeed.value < s.tune.start.stop then .running 1000 else .stopped

/-- RUNNING entered with a start counted, the speed known (R78, R79). -/
theorem startRunning_eq {s t : State} (high : t.resetLow = false)
    (leaves : (counted s (.start s.classifyStart)).leaveStart = t) (known : t.board.engineSpeed.age ≠ .unknown)
    (timer : t.monitor.stopTimer = .stopped) :
    s.startRunning = { inStart t .running with monitor := { t.monitor with state := .running, stopTimer := stopBegins t } } := by
  unfold State.startRunning State.enterRunning
  rw [countStart_eq, moveStart_eq (st := .running) high leaves nofun, reactRunning_known (s := inStart t .running) known]
  unfold stopBegins
  simp only [inStart, timer]
  rfl

/-- At the run threshold the stop timer does not begin. -/
theorem stopBegins_atRun {s : State} (ordered : s.tune.start.stop ≤ s.tune.start.run) (at_ : s.speedAtRun) :
    stopBegins s = .stopped := by
  refine if_neg ?_
  have := at_.2
  omega

/-- OFF and ARMED at the run threshold (R76): an UNOBSERVED start unless the first-reading flag is set. -/
def unobservedCounted (s : State) : State := if s.monitor.firstReading then s else counted s (.start .unobserved)

theorem unobservedCounted_frame (s : State) : unobservedCounted s = { s with
    slots := (unobservedCounted s).slots, hires := (unobservedCounted s).hires } := by
  unfold unobservedCounted
  split <;> rfl

/-- RUNNING as it is entered without a crank, before DEPOT is left. -/
def uncranked (s : State) : State :=
  inStart { unobservedCounted s with
    supply := if s.monitor.state = .off then { s.supply with doze := .stopped } else s.supply } .running

theorem uncranked_frame (s : State) : uncranked s = { s with
    slots := (unobservedCounted s).slots, hires := (unobservedCounted s).hires
    supply := if s.monitor.state = .off then { s.supply with doze := .stopped } else s.supply
    monitor := { s.monitor with state := .running }
    port := { s.port with mem := memPutAll s.port.mem 0x05 (leBytes 1 StartState.running.code) } } := by
  unfold uncranked inStart
  rw [unobservedCounted_frame]

theorem depotAutoLeave_frame (s : State) : s.depotAutoLeave = { s with
    depot := s.depotAutoLeave.depot, journal := s.depotAutoLeave.journal, port := s.depotAutoLeave.port } := by
  unfold State.depotAutoLeave
  split
  · rw [State.trigger_frame, State.setNotice_frame, State.publishDepot, State.publish_frame]
    rfl
  · rfl

theorem reactIdle_atRun {s : State} (high : s.resetLow = false) (at_ : s.speedAtRun) (ordered : s.tune.start.stop ≤ s.tune.start.run)
    (idle : s.monitor.state = .off ∨ s.monitor.state = .armed) : s.reactIdle = { (uncranked s).depotAutoLeave with
      monitor := { s.monitor with state := .running, stopTimer := .stopped } } := by
  have leaves : (unobservedCounted s).leaveStart = { unobservedCounted s with
      supply := if s.monitor.state = .off then { s.supply with doze := .stopped } else s.supply } := by
    have frame := unobservedCounted_frame s
    generalize unobservedCounted s = u at frame ⊢
    rcases idle with off | armed
    · rw [leaveStart_off (by rw [frame]; exact off), if_pos off, frame]
    · rw [leaveStart_armed (by rw [frame]; exact armed), if_neg (by rw [armed]; decide), frame]
  have landing : (if s.monitor.firstReading then s else s.land (.start .unobserved)) = unobservedCounted s := by
    unfold unobservedCounted
    rw [land_eq]
    rfl
  have react : s.reactIdle = ((unobservedCounted s).moveStart .running).depotAutoLeave.reactRunning := by
    unfold State.reactIdle
    rw [if_pos (atRun_true at_)]
    dsimp only
    rw [landing]
  have entered := moveStart_eq (st := .running) (by
    rw [unobservedCounted_frame]
    exact high) leaves nofun
  rw [react, entered]
  change (uncranked s).depotAutoLeave.reactRunning = _
  have frame := depotAutoLeave_frame (uncranked s)
  generalize (uncranked s).depotAutoLeave = t at frame ⊢
  rw [uncranked_frame] at frame
  have board : t.board = s.board := by rw [frame]
  have tune : t.tune = s.tune := by rw [frame]
  have monitor : t.monitor = { s.monitor with state := .running } := by rw [frame]
  have fast : ¬ t.board.engineSpeed.value < t.tune.start.stop := by
    have reached := at_.2
    rw [board, tune]
    omega
  rw [reactRunning_known (by rw [board]; exact at_.1), if_neg fast, monitor]

/-! ### CRANKING entered (R77) -/

/-- CRANKING as it is entered with evidence of a source, before DEPOT is left. -/
def cranked (t : State) (source : CrankSource) : State :=
  { inStart t .cranking with monitor := { t.monitor with
    state := .cranking, crankTimer := .running 0, longMark := false, caught := decide t.speedAtRun, firstReading := false
    evidence := some source } }

theorem enterCranking_eq {s t : State} (high : t.resetLow = false) (leaves : (counted s .crankAttempt).leaveStart = t)
    (source : CrankSource) : s.enterCranking source = (cranked t source).depotAutoLeave := by
  unfold State.enterCranking
  rw [land_eq]
  dsimp only
  rw [moveStart_eq (st := .cranking) high (by exact leaves) nofun, atRun_eq]
  rfl

end Sys2Proof.Proofs
end

section
/-! The entry to HOLD at the monitor and the journal, the entry to RUN, and the monitor's four steps of R85. -/
namespace Sys2Proof.Proofs
open Sys2Proof Sys2Proof.Machine

/-! ### The entry to HOLD (R84, R165, R171) -/

/-- The monitor at the entry to HOLD (R84). -/
def heldAs (m : Monitor) : StartState → Monitor
  | .cranking => { m with
      state := .catching, crankTimer := .stopped, evidence := none, heldCrank := true, catchTimer := .stopped }
  | .catching => { m with catchTimer := m.catchTimer.freeze }
  | .running => { m with stopTimer := m.stopTimer.freeze }
  | .off => m
  | .armed => m

/-- The monitor at the entry to HOLD, by its state (R84). -/
def heldMonitor (m : Monitor) : Monitor := heldAs m m.state

theorem monitorEnterHold_eq {s : State} (high : s.resetLow = false) : s.monitorEnterHold = { s with
    monitor := heldMonitor s.monitor
    port := { s.port with
      mem := if s.monitor.state = .cranking then memPutAll s.port.mem 0x05 (leBytes 1 StartState.catching.code) else s.port.mem } } := by
  have other (state : StartState) (is : s.monitor.state = state) (no : state ≠ .cranking) (m : Monitor) (held : heldMonitor s.monitor = m) :
      s.withMonitor m = { s with
        monitor := heldMonitor s.monitor
        port := { s.port with mem :=
          if s.monitor.state = .cranking then memPutAll s.port.mem 0x05 (leBytes 1 StartState.catching.code) else s.port.mem } } := by
    rw [held, if_neg (by rw [is]; exact no)]
    rfl
  unfold State.monitorEnterHold
  split
  case h_1 is =>
    have held : heldMonitor s.monitor = { s.monitor with
        state := .catching, crankTimer := .stopped, evidence := none, heldCrank := true, catchTimer := .stopped } :=
      congrArg (heldAs s.monitor) is
    rw [if_pos is, setStart_eq (by exact high), held]
    rfl
  case h_2 is => exact other _ is nofun _ (congrArg (heldAs s.monitor) is)
  case h_3 is => exact other _ is nofun _ (congrArg (heldAs s.monitor) is)
  case h_4 is => exact other _ is nofun s.monitor (congrArg (heldAs s.monitor) is)
  case h_5 is => exact other _ is nofun s.monitor (congrArg (heldAs s.monitor) is)

/-- The journal at the entry to HOLD (R165, R171). -/
def heldJournal (j : Journal) : Journal :=
  if j.writing = none then { j with retry := .stopped, period := j.period.freeze }
  else { j with
    writing := none, another := true, waiting := j.waiting.map (fun _ => false), retry := .stopped, period := j.period.freeze }

theorem journalEnterHold_eq (s : State) : s.journalEnterHold = { s with journal := heldJournal s.journal } := by
  unfold heldJournal
  by_cases idle : s.journal.writing = none
  · rw [journalEnterHold_idle idle, if_pos idle]
  · rw [journalEnterHold_writing idle, if_neg idle]

/-- The entry to HOLD at every block (R165). -/
theorem enterHold_becomes {s : State} (form : s.port.mem.wf) (high : s.resetLow = false) :
    ∃ t, s.enterHold = t
      ∧ t = { heldBase s with
          monitor := heldMonitor s.monitor, journal := heldJournal s.journal
          port := { (heldBase s).port with mem := t.port.mem } }
      ∧ t.byteAt 0x04 = 2 ∧ (s.monitor.state = .cranking → t.byteAt 0x05 = 3)
      ∧ bytesKept s t (fun a => a = 0x04 ∨ (a = 0x05 ∧ s.monitor.state = .cranking)) := by
  obtain ⟨power, kept⟩ := heldBase_shown form
  have entered := enterHold_eq high
  rw [monitorEnterHold_eq (s := heldBase s) high, journalEnterHold_eq] at entered
  refine ⟨_, entered, rfl, ?_⟩
  by_cases cranking : s.monitor.state = .cranking
  · have shown := inStart_shown (s := heldBase s) (t := s.enterHold) (heldBase_wf form) (st := .catching) (by
      rw [entered]
      exact if_pos cranking)
    rw [← entered]
    exact ⟨(shown.2 4 (by decide) (by decide)).trans power, fun _ => shown.1,
      fun a inside out => (shown.2 a inside fun h => out (.inr ⟨h, cranking⟩)).trans (kept a inside fun h => out (.inl h))⟩
  · have same (a : Nat) : s.enterHold.byteAt a = (heldBase s).byteAt a := byteAt_congr (by
      rw [entered]
      exact if_neg cranking) a
    rw [← entered, same]
    exact ⟨power, fun h => absurd h cranking, fun a inside out => (same a).trans (kept a inside fun h => out (.inl h))⟩

/-! ### The entry to RUN (R166, R169) -/

/-- The doze timer at an entry to RUN (R166). -/
def runDoze (s : State) : Timer :=
  match s.supply.doze with
  | .frozen ms => .running ms
  | _ => if s.monitor.state = .off then .running 30000 else .stopped

/-- The period timer at an entry to RUN (R169). -/
def runPeriod (s : State) : Timer :=
  match s.journal.period with
  | .stopped => .running (1000 * s.tune.period)
  | t => t.resume

theorem runDoze_frozen {s : State} {ms : Nat} (frozen : s.supply.doze = .frozen ms) : runDoze s = .running ms := by
  unfold runDoze
  rw [frozen]

theorem runPeriod_frozen {s : State} {ms : Nat} (frozen : s.journal.period = .frozen ms) : runPeriod s = .running ms := by
  unfold runPeriod
  rw [frozen]
  rfl

/-- The entry to RUN of a part whose sensor supply is OFF after no trial (R51, R166). -/
theorem enterRun_on {s : State} (form : s.port.mem.wf) (high : s.resetLow = false) (off : s.sensor.state = .off)
    (retry : s.sensor.retry = 0) :
    ∃ t, s.enterRun = t
      ∧ t = { s with
          supply := { s.supply with power := .run, started := true, doze := runDoze s }
          sensor := ⟨.on, 0, .stopped, .stopped⟩
          pulse := { s.pulse.each (fun c => { c with edges := 0, mark := false }) with windows := true }
          duty := { s.duty with quantumTimer := .running 0, lastClutch := none }
          scanner := { s.scanner with selfPoll := .running 1000 }
          journal := { s.journal with period := runPeriod s }
          port := { s.port with mem := t.port.mem } }
      ∧ t.byteAt 0x04 = 0 ∧ bytesKept s t (fun a => a = 0x04) := by
  have power : s.setPower .run = { s.store 0x04 [0] with supply := { s.supply with power := .run } } := by
    unfold State.setPower State.publishPower
    exact State.publish_live _ _ _ (by exact high)
  have sensor : (s.setPower .run).sensorEnterRun = { s.setPower .run with sensor := ⟨.on, 0, .stopped, .stopped⟩ } := by
    unfold State.sensorEnterRun
    rw [if_pos (by rw [power]; exact off), if_pos (by rw [power]; exact retry)]
    exact setSensor_still fun h => h.2.1 rfl
  have entered : s.enterRun = { s.store 0x04 [0] with
      supply := { s.supply with power := .run, started := true, doze := runDoze s }
      sensor := ⟨.on, 0, .stopped, .stopped⟩
      pulse := { s.pulse.each (fun c => { c with edges := 0, mark := false }) with windows := true }
      duty := { s.duty with quantumTimer := .running 0, lastClutch := none }
      scanner := { s.scanner with selfPoll := .running 1000 }
      journal := { s.journal with period := runPeriod s } } := by
    unfold State.enterRun
    rw [sensor, power]
    rfl
  have same (a : Nat) : s.enterRun.byteAt a = (s.store 0x04 [0]).byteAt a := byteAt_congr (by rw [entered]) a
  refine ⟨_, rfl, by rw [entered]; rfl, ?_, fun a inside out => ?_⟩
  · rw [same]
    exact byteAt_store (bytes := [0]) form (by simp [Config.memorySize]) (by decide)
  · rw [same]
    refine (byteAt_store (bytes := [0]) (a := 0x04) (c := a) form (by simp [Config.memorySize]) inside).trans (if_neg ?_)
    simp only [List.length_singleton]
    omega

/-! ### The four steps of R85 -/

/-- Timers that no entry to HOLD froze do not resume (R85). -/
theorem resumeMonitor_eq {s : State} {c p : Timer} (catch_ : s.monitor.catchTimer.resume = c) (stop : s.monitor.stopTimer.resume = p) :
    s.resumeMonitor = { s with monitor := { s.monitor with catchTimer := c, stopTimer := p } } := by
  unfold State.resumeMonitor
  rw [catch_, stop]
  rfl

theorem rereadIgn_on {s : State} (on : s.lines.ign.level = true) :
    s.rereadIgn = if s.monitor.state = .off then s.enterIdle .armed else s := if_pos on

theorem rereadIgn_off {s : State} (off : s.lines.ign.level = false) : s.rereadIgn = s.ignFallNow :=
  if_neg (by rw [State.ignOn, off]; decide)

/-- In RUNNING the IGN level is read again to no effect, unless the stop is confirmed by it (R85). -/
theorem rereadIgn_running {s : State} (running : s.monitor.state = .running)
    (stays : s.board.engineSpeed.age ≠ .unknown ∨ s.lines.ign.level = true) : s.rereadIgn = s := by
  cases ign : s.lines.ign.level with
  | true => rw [rereadIgn_on ign, if_neg (by rw [running]; decide)]
  | false =>
    rw [rereadIgn_off ign]
    unfold State.ignFallNow
    rw [running]
    exact if_pos ((known_iff _).2 (stays.resolve_right (by rw [ign]; decide)))

/-- Steps 3 and 4 in RUNNING, the speed known or IGN active (R80, R85). -/
theorem settles_running {s : State} (running : s.monitor.state = .running)
    (stays : s.board.engineSpeed.age ≠ .unknown ∨ s.lines.ign.level = true) : s.rereadIgn.react = s.reactRunning := by
  rw [rereadIgn_running running stays]
  unfold State.react
  rw [running]

theorem react_off {s : State} (off : s.monitor.state = .off) (below : s.speedBelowRun) : s.react = s := by
  unfold State.react
  rw [off]
  exact reactIdle_below below

theorem react_armed {s : State} (armed : s.monitor.state = .armed) (below : s.speedBelowRun) : s.react = s := by
  unfold State.react
  rw [armed]
  exact reactIdle_below below

theorem react_catching {s : State} (catching : s.monitor.state = .catching) : s.react = if s.atRun then s.startRunning else s := by
  unfold State.react
  rw [catching]

theorem judgeHeldCrank_none {s : State} (none_ : s.monitor.heldCrank = false) : s.judgeHeldCrank = s :=
  if_neg (by rw [none_]; decide)

end Sys2Proof.Proofs
end

section
/-! The entry to HOLD and the return from it (R84, R85, R164, R165). -/
namespace Sys2Proof.Proofs
open Sys2Proof Sys2Proof.Machine

theorem startedFrom_gives {s t : State} (slots : t.slots = s.slots) (hires : t.hires = s.hires)
    {j : Journal} (started : j.startedFrom s) : j.startedFrom { s with slots := t.slots, hires := t.hires } := by
  rw [slots, hires]
  exact started

/-- What a start counted at the entry to RUNNING shows (R82, R83, R88). -/
theorem runs_of {s t : State} (form : s.port.mem.wf)
    (slots : t.slots = (counted s (.start s.classifyStart)).slots) (hires : t.hires = (counted s (.start s.classifyStart)).hires)
    (mem : t.port.mem = memPutAll s.port.mem 0x05 (leBytes 1 StartState.running.code)) :
    t.byteAt 0x05 = 4 ∧ bytesKept s t (fun a => a = 0x05) ∧ slotGains s t .engine (startBody (startCounted s))
      ∧ registerGains s t (fun c => { c with starts := startCounted s c.starts }) := by
  obtain ⟨shown, kept⟩ := inStart_shown form mem
  obtain ⟨gains, register⟩ := counted_start_gains (startCounted_eq s) slots hires
  exact ⟨shown, kept, gains, register⟩

/-- The stop timer in RUNNING, by the speed as it stands (R80). -/
def runningStop (s : State) (timer : Timer) : Timer :=
  if s.board.engineSpeed.age ≠ .unknown ∧ s.board.engineSpeed.value < s.tune.start.stop then
    (if timer.isRunning then timer else .running 1000)
  else .stopped

theorem reactRunning_stays {s : State} (stays : s.board.engineSpeed.age ≠ .unknown ∨ s.lines.ign.level = true) :
    s.reactRunning = { s with monitor := { s.monitor with stopTimer := runningStop s s.monitor.stopTimer } } := by
  by_cases known : s.board.engineSpeed.age = .unknown
  · have stopped : runningStop s s.monitor.stopTimer = .stopped := if_neg fun h => h.1 known
    rw [reactRunning_unknown known, if_pos (stays.resolve_left (not_not_intro known)), stopped]
  · have slow : (s.board.engineSpeed.age ≠ .unknown ∧ s.board.engineSpeed.value < s.tune.start.stop) ↔
        s.board.engineSpeed.value < s.tune.start.stop := and_iff_right known
    have timer : runningStop s s.monitor.stopTimer = _ := if_congr slow rfl rfl
    rw [reactRunning_known known, timer]

theorem startRunning_enters {s t : State} (high : t.resetLow = false)
    (leaves : (counted s (.start s.classifyStart)).leaveStart = t) : s.startRunning = (inStart t .running).reactRunning := by
  unfold State.startRunning State.enterRunning
  rw [countStart_eq, moveStart_eq (st := .running) high leaves nofun]

/-- RUNNING entered from CATCHING with a start counted (R79). -/
theorem startRunning_catching {s : State} (high : s.resetLow = false) (catching : s.monitor.state = .catching)
    (stays : s.board.engineSpeed.age ≠ .unknown ∨ s.lines.ign.level = true) :
    s.startRunning = { counted s (.start s.classifyStart) with
      monitor := { s.monitor with state := .running, catchTimer := .stopped, stopTimer := runningStop s s.monitor.stopTimer }
      port := { s.port with mem := memPutAll s.port.mem 0x05 (leBytes 1 StartState.running.code) } } := by
  rw [startRunning_enters (by exact high) (leaveStart_catching (s := counted s (.start s.classifyStart)) catching),
    reactRunning_stays (by exact stays)]
  rfl

theorem runningStop_twice (s : State) : runningStop s (runningStop s .stopped).resume = runningStop s .stopped := by
  unfold runningStop
  by_cases slow : s.board.engineSpeed.age ≠ .unknown ∧ s.board.engineSpeed.value < s.tune.start.stop
  · rw [if_pos slow, if_pos slow]
    rfl
  · rw [if_neg slow, if_neg slow]

/-- A held crank that had caught is a start (R85). -/
theorem leaveHold_caught {s : State} (high : s.resetLow = false) (held : s.monitor.heldCrank = true) (caught : s.monitor.caught = true)
    (catching : s.monitor.state = .catching) (timer : s.monitor.stopTimer = .stopped)
    (stays : s.board.engineSpeed.age ≠ .unknown ∨ s.lines.ign.level = true) :
    s.monitorLeaveHold = { counted s (.start s.classifyStart) with
      monitor := { s.monitor with
        state := .running, heldCrank := false, catchTimer := .stopped, stopTimer := runningStop s .stopped }
      port := { s.port with mem := memPutAll s.port.mem 0x05 (leBytes 1 StartState.running.code) } } := by
  have judged : s.judgeHeldCrank = { counted s (.start s.classifyStart) with
      monitor := { s.monitor with
        state := .running, heldCrank := false, catchTimer := .stopped, stopTimer := runningStop s .stopped }
      port := { s.port with mem := memPutAll s.port.mem 0x05 (leBytes 1 StartState.running.code) } } := by
    unfold State.judgeHeldCrank
    rw [if_pos held]
    refine (if_pos caught).trans ((startRunning_catching (s := s.withMonitor
      { s.monitor with heldCrank := false, catchTimer := .running s.tune.start.catchTime }) high catching stays).trans ?_)
    rw [← timer]
    rfl
  unfold State.monitorLeaveHold
  rw [judged, resumeMonitor_eq (c := .stopped) rfl rfl, settles_running rfl (by exact stays), reactRunning_stays (by exact stays)]
  have twice := runningStop_twice s
  exact congrArg (fun p => ({ counted s (.start s.classifyStart) with
      monitor := { s.monitor with
        state := .running, heldCrank := false, catchTimer := .stopped, stopTimer := p }
      port := { s.port with mem := memPutAll s.port.mem 0x05 (leBytes 1 StartState.running.code) } } : State)) twice

/-- The part with its catch timer running on (R85). -/
def catchResumed (s : State) (left : Nat) : State :=
  { s with monitor := { s.monitor with heldCrank := false, catchTimer := .running left } }

/-- A held crank that had not caught gets the full catch time, and a frozen catch timer goes on (R85). -/
theorem leaveHold_catching {s : State} {left : Nat} (timer : s.monitor.stopTimer = .stopped)
    (time : s.monitor.heldCrank = true ∧ s.monitor.caught = false ∧ left = s.tune.start.catchTime
      ∨ s.monitor.heldCrank = false ∧ s.monitor.catchTimer = .frozen left) :
    s.monitorLeaveHold = (catchResumed s left).rereadIgn.react := by
  unfold State.monitorLeaveHold
  rcases time with ⟨held, uncaught, rfl⟩ | ⟨free, frozen⟩
  · have judged : s.judgeHeldCrank = s.withMonitor
        { s.monitor with heldCrank := false, catchTimer := .running s.tune.start.catchTime } := by
      unfold State.judgeHeldCrank
      rw [if_pos held]
      exact if_neg (by exact Bool.eq_false_iff.1 uncaught)
    rw [judged, resumeMonitor_eq (c := .running s.tune.start.catchTime) (p := .stopped) rfl (by exact congrArg Timer.resume timer), ← timer]
    rfl
  · rw [judgeHeldCrank_none free, resumeMonitor_eq (c := .running left) (p := .stopped) (by rw [frozen]; rfl) (by rw [timer]; rfl), ← timer]
    unfold catchResumed
    rw [← free]

/-- With no crank held and no timer frozen the exit only rereads IGN and the speed (R85). -/
theorem leaveHold_plain {s : State} (free : s.monitor.heldCrank = false) (catch_ : s.monitor.catchTimer = .stopped)
    {p : Timer} (stop : s.monitor.stopTimer.resume = p) :
    s.monitorLeaveHold = ({ s with monitor := { s.monitor with stopTimer := p } } : State).rereadIgn.react := by
  unfold State.monitorLeaveHold
  rw [judgeHeldCrank_none free, resumeMonitor_eq (c := .stopped) (by rw [catch_]; rfl) stop, ← catch_]

theorem ignFallNow_off {s : State} (off : s.monitor.state = .off) : s.ignFallNow = s := by
  unfold State.ignFallNow
  rw [off]

/-- The monitor at rest as IGN has it: OFF with IGN inactive, ARMED with it active. -/
def restsByIgn (s : State) : Prop :=
  s.monitor.state = .off ∧ s.lines.ign.level = false ∨ s.monitor.state = .armed ∧ s.lines.ign.level = true

theorem leaveHold_rests {s : State} (free : s.monitor.heldCrank = false) (catch_ : s.monitor.catchTimer = .stopped)
    (stop : s.monitor.stopTimer = .stopped) (rests : restsByIgn s) : s.monitorLeaveHold = s.reactIdle := by
  have same : ({ s with monitor := { s.monitor with stopTimer := .stopped } } : State) = s := by rw [← stop]
  rw [leaveHold_plain free catch_ (p := .stopped) (by rw [stop]; rfl), same]
  unfold State.react
  rcases rests with ⟨off, ign⟩ | ⟨armed, ign⟩
  · rw [rereadIgn_off ign, ignFallNow_off off, off]
  · rw [rereadIgn_on ign, if_neg (by rw [armed]; decide), armed]

theorem rejudgeWarning_none {s : State} (above : s.supply.armed = true → s.warningLevel ≤ s.supply.battery)
    (below : s.supply.armed = false → s.supply.battery ≤ s.warningLevel) : s.rejudgeWarning = s := by
  unfold State.rejudgeWarning
  rw [if_neg fun h => absurd (above h.1) (Nat.not_le.2 h.2), if_neg fun h => ?_]
  exact absurd (below (Bool.not_eq_true _ ▸ h.1)) (Nat.not_le.2 h.2)

theorem journalLeaveHold_none {s : State} (another : s.journal.another = false) (waiting : s.journal.waiting = none) :
    s.journalLeaveHold = s := by
  refine if_neg ?_
  rw [another, waiting]
  simp

theorem restartDwellExpiry_eq {s : State} {ms : Nat} (hold : s.supply.power = .hold) (dwell : s.supply.dwell = .running ms) :
    let base : State := { s with supply := { s.supply with dwell := .stopped } }
    restartDwellExpiry s = (if s.supply.prior = .doze then base.enterDoze else base.enterRun).monitorLeaveHold.rejudgeWarning.journalLeaveHold := by
  intro base
  unfold restartDwellExpiry State.leaveHold
  rw [if_pos ⟨hold, by rw [dwell]; rfl⟩]
  cases prior : s.supply.prior <;> rfl

/-- OFF entered with the journal free, whatever the speed (R81). -/
theorem moveStart_off {s t : State} (high : t.resetLow = false) (leaves : s.leaveStart = t) (free : t.journalFree) :
    ∃ j, s.moveStart .off = { inStart t .off with supply := dozing t, journal := j }
      ∧ j.startedFrom t ∧ j.waiting = t.journal.waiting.map (fun _ => true) := by
  obtain ⟨j, entered, started, waits⟩ := offEntered_free (s := inStart t .off) free
  refine ⟨j, ?_, started, waits⟩
  unfold State.moveStart
  rw [leaves, setStart_eq high, if_pos rfl, entered]
  rfl

/-- What an entry to OFF shows (R81, R88). -/
theorem off_of {s t : State} (form : s.port.mem.wf) {j : Journal} (journal : t.journal = j)
    (mem : t.port.mem = memPutAll s.port.mem 0x05 (leBytes 1 StartState.off.code))
    (started : j.startedFrom { s with slots := t.slots, hires := t.hires }) (waits : j.waiting = s.journal.waiting.map (fun _ => true)) :
    t.byteAt 0x05 = 0 ∧ bytesKept s t (fun a => a = 0x05)
      ∧ t.journal.startedFrom { s with slots := t.slots, hires := t.hires } ∧ t.journal.waiting = s.journal.waiting.map (fun _ => true) := by
  obtain ⟨shown, kept⟩ := inStart_shown form mem
  rw [journal]
  exact ⟨shown, kept, started, waits⟩

/-! ### What the exit comes to (R85) -/

section
variable {s : State} {left : Nat}

theorem catchResumed_stays (catching : s.monitor.state = .catching) (ign : s.lines.ign.level = true) (below : s.speedBelowRun) :
    (catchResumed s left).rereadIgn.react = catchResumed s left := by
  have other : (catchResumed s left).monitor.state = .catching := catching
  rw [rereadIgn_on (by exact ign), if_neg (by rw [other]; decide), react_catching other]
  exact if_neg (Bool.eq_false_iff.1 (atRun_false (s := catchResumed s left) below))

theorem catchResumed_starts (high : s.resetLow = false) (catching : s.monitor.state = .catching) (timer : s.monitor.stopTimer = .stopped)
    (ign : s.lines.ign.level = true) (at_ : s.speedAtRun) (ordered : s.tune.start.stop ≤ s.tune.start.run) :
    (catchResumed s left).rereadIgn.react = { counted s (.start s.classifyStart) with
      monitor := { s.monitor with state := .running, heldCrank := false, catchTimer := .stopped }
      port := { s.port with mem := memPutAll s.port.mem 0x05 (leBytes 1 StartState.running.code) } } := by
  have other : (catchResumed s left).monitor.state = .catching := catching
  have stopped : runningStop (catchResumed s left) (catchResumed s left).monitor.stopTimer = s.monitor.stopTimer := by
    rw [timer]
    refine if_neg fun h => ?_
    have slow : s.board.engineSpeed.value < s.tune.start.stop := h.2
    have reached := at_.2
    omega
  rw [rereadIgn_on (by exact ign), if_neg (by rw [other]; decide), react_catching other, if_pos (atRun_true (by exact at_)),
    startRunning_catching (by exact high) other (.inl (by exact at_.1)), stopped]
  rfl

theorem catchResumed_fails (high : s.resetLow = false) (catching : s.monitor.state = .catching)
    (ign : s.lines.ign.level = false) (below : s.speedBelowRun) (free : s.journalFree) :
    ∃ j, (catchResumed s left).rereadIgn.react = { counted s .failedCrank with
        monitor := { s.monitor with state := .off, heldCrank := false, catchTimer := .stopped }
        supply := dozing s, journal := j
        port := { s.port with mem := memPutAll s.port.mem 0x05 (leBytes 1 StartState.off.code) } }
      ∧ j.startedFrom (counted s .failedCrank) ∧ j.waiting = s.journal.waiting.map (fun _ => true) := by
  have other : (catchResumed s left).monitor.state = .catching := catching
  have falls : (catchResumed s left).ignFallNow = (counted (catchResumed s left) .failedCrank).enterIdle .off := by
    unfold State.ignFallNow State.failCrank
    rw [other, land_eq]
    rfl
  obtain ⟨j, entered, started, waits⟩ := enterIdle_off (s := counted (catchResumed s left) .failedCrank) (by exact high)
    (leaveStart_catching other) (by exact free) (by exact below)
  refine ⟨j, ?_, started, waits⟩
  rw [rereadIgn_off (by exact ign), falls, entered]
  exact react_off rfl below

theorem leaveHold_stops (high : s.resetLow = false) (running : s.monitor.state = .running) (plain : s.monitor.heldCrank = false)
    (catch_ : s.monitor.catchTimer = .stopped) (unknown : s.board.engineSpeed.age = .unknown) (ign : s.lines.ign.level = false)
    (closed : s.duty.window = none) (free : s.journalFree) :
    ∃ j, s.monitorLeaveHold = { s with
        monitor := { s.monitor with state := .off, stopTimer := .stopped, lastStop := some s.supply.recorderTime }
        duty := { s.duty with ptoAbove := false, overspeedCount := none }, supply := dozing s, journal := j
        port := { s.port with mem := memPutAll s.port.mem 0x05 (leBytes 1 StartState.off.code) } }
      ∧ j.startedFrom s ∧ j.waiting = s.journal.waiting.map (fun _ => true) := by
  obtain ⟨j, entered, started, waits⟩ := moveStart_off (by exact high)
    (confirmStop_leaves (s := { s with monitor := { s.monitor with stopTimer := s.monitor.stopTimer.resume } }) running closed)
    (by exact free)
  refine ⟨j, ?_, started, waits⟩
  have stops : ({ s with monitor := { s.monitor with stopTimer := s.monitor.stopTimer.resume } } : State).ignFallNow =
      ({ s with monitor := { s.monitor with stopTimer := s.monitor.stopTimer.resume } } : State).confirmStop := by
    unfold State.ignFallNow
    rw [show ({ s with monitor := { s.monitor with stopTimer := s.monitor.stopTimer.resume } } : State).monitor.state = .running
      from running]
    exact if_neg fun known => (known_iff _).1 known unknown
  rw [leaveHold_plain plain catch_ rfl, rereadIgn_off (by exact ign), stops]
  unfold State.confirmStop
  rw [show ({ s with monitor := { s.monitor with stopTimer := s.monitor.stopTimer.resume } } : State).ignOn = false from ign,
    if_neg (by decide), entered]
  exact react_off rfl (.inl unknown)

theorem leaveHold_running (running : s.monitor.state = .running) (plain : s.monitor.heldCrank = false)
    (catch_ : s.monitor.catchTimer = .stopped) (stays : s.board.engineSpeed.age ≠ .unknown ∨ s.lines.ign.level = true) :
    s.monitorLeaveHold = { s with monitor := { s.monitor with stopTimer := runningStop s s.monitor.stopTimer.resume } } := by
  rw [leaveHold_plain plain catch_ rfl, settles_running (by exact running) (by exact stays), reactRunning_stays (by exact stays)]
  rfl

theorem leaveHold_arms (high : s.resetLow = false) (off : s.monitor.state = .off) (plain : s.monitor.heldCrank = false)
    (catch_ : s.monitor.catchTimer = .stopped) (stop : s.monitor.stopTimer = .stopped) (ign : s.lines.ign.level = true)
    (below : s.speedBelowRun) :
    s.monitorLeaveHold = inStart { s with supply := { s.supply with doze := .stopped } } .armed := by
  have same : ({ s with monitor := { s.monitor with stopTimer := .stopped } } : State) = s := by rw [← stop]
  rw [leaveHold_plain plain catch_ (p := .stopped) (by rw [stop]; rfl), same, rereadIgn_on ign, if_pos off,
    enterIdle_armed (by exact high) (leaveStart_off off) (by exact below)]
  exact react_armed rfl below

theorem leaveHold_disarms (high : s.resetLow = false) (armed : s.monitor.state = .armed) (plain : s.monitor.heldCrank = false)
    (catch_ : s.monitor.catchTimer = .stopped) (stop : s.monitor.stopTimer = .stopped) (ign : s.lines.ign.level = false)
    (below : s.speedBelowRun) (free : s.journalFree) :
    ∃ j, s.monitorLeaveHold = { inStart s .off with supply := dozing s, journal := j }
      ∧ j.startedFrom s ∧ j.waiting = s.journal.waiting.map (fun _ => true) := by
  have same : ({ s with monitor := { s.monitor with stopTimer := .stopped } } : State) = s := by rw [← stop]
  have falls : s.ignFallNow = s.enterIdle .off := by
    unfold State.ignFallNow
    rw [armed]
  obtain ⟨j, entered, started, waits⟩ := enterIdle_off high (leaveStart_armed armed) free below
  refine ⟨j, ?_, started, waits⟩
  rw [leaveHold_plain plain catch_ (p := .stopped) (by rw [stop]; rfl), same, rereadIgn_off ign, falls, entered]
  exact react_off rfl below

end

/-- A hand-on of ENGINE_SPEED outside HOLD (R73, R86). -/
theorem speedHandOn_out {s : State} (out : s.supply.power ≠ .hold) : s.speedHandOn = { s.react with
    monitor := { s.react.monitor with
      firstReading := if s.react.board.engineSpeed.age = .fresh then false else s.react.monitor.firstReading } } := by
  unfold State.speedHandOn
  rw [atMonitor_out out]
  by_cases fresh : s.react.board.engineSpeed.age = .fresh
  · simp only [if_pos fresh]
    rfl
  · simp only [if_neg fresh]

theorem react_idle {s : State} (idle : s.monitor.state = .off ∨ s.monitor.state = .armed) : s.react = s.reactIdle := by
  unfold State.react
  rcases idle with idle | idle <;> rw [idle]

end Sys2Proof.Proofs
end

section
/-! HOLD entered and left, as a whole (R84, R85, R164, R165). -/
namespace Sys2Proof.Proofs
open Sys2Proof Sys2Proof.Machine

/-- Settles O53: the entry, the exits to RUN and DOZE, the monitor's steps, the warning and the journal. -/
theorem holdIsEnteredAndLeft : Obligations.HoldIsEnteredAndLeft := by
  unfold Obligations.HoldIsEnteredAndLeft
  intro warning
  have level (s : State) : s.warningLevel = warning s := by
    show s.tune.supply.voltage.level 9000 = warning s
    simp only [warning]
    cases s.tune.supply.voltage <;> rfl
  refine ⟨fun s mv live form out low => ?_, fun s ms doze period live form hold prior dwell frozenDoze frozenPeriod armed above off free
      catch_ stop ign below sensor retry another waiting => ?_,
    fun s ms live form hold prior dwell armed above off free catch_ stop ign another waiting => ?_,
    fun s ms on hold dwell => ?_, fun s live form out ordered => ?_, fun s => ?_⟩
  · have stops : mv < s.stopLevel := by
      show mv < s.tune.supply.voltage.level 6000
      cases h : s.tune.supply.voltage <;> rw [h] at low <;> exact low
    have enters : exec (.batteryBelowStop mv) s = .next (s.takeAllWaiting.measure mv).enterHold :=
      (act_on live.1 _).trans (congrArg _ (if_pos ⟨out, stops⟩))
    intro taken
    have samples : taken.samples = if s.supply.power = .run then [] else s.samples := by
      by_cases run : s.supply.power = .run
      · rw [if_pos run]
        exact (s.takeWaiting_samples _ run).trans (by simp)
      · rw [if_neg run]
        exact congrArg State.samples (s.takeWaiting_rest _ run)
    have frame : taken = { s with
        samples := taken.samples, slots := taken.slots, hires := taken.hires
        port := { s.port with notice := taken.port.notice } } := s.takeWaiting_frame _
    change exec (.batteryBelowStop mv) s = .next (taken.measure mv).enterHold at enters
    clear_value taken
    rw [samples] at frame
    obtain ⟨t, entered, moved, power, start, kept⟩ := enterHold_becomes (s := taken.measure mv) (by rw [frame]; exact form)
      (by rw [frame]; exact live.2)
    have monitor : taken.monitor = s.monitor := by rw [frame]
    have journal : taken.journal = s.journal := by rw [frame]
    have same (a : Nat) : (taken.measure mv).byteAt a = s.byteAt a := by rw [frame]; rfl
    refine ⟨t, enters.trans (congrArg _ entered), ?_, ?_, ?_, power, fun cranking => start ?_, fun a inside out => ?_⟩
    · rw [moved, frame]
      rfl
    · rw [moved, frame]
      rfl
    · rw [moved, frame]
      rfl
    · exact (congrArg Monitor.state monitor).trans cranking
    · refine (kept a inside ?_).trans (same a)
      change ¬ (a = 4 ∨ a = 5 ∧ taken.monitor.state = .cranking)
      rw [monitor]
      exact out
  · obtain ⟨t, entered, moved, power, kept⟩ := enterRun_on (s := { s with supply := { s.supply with dwell := .stopped } })
      form live.2 sensor retry
    have begins : runDoze { s with supply := { s.supply with dwell := .stopped } } = .running doze := runDoze_frozen frozenDoze
    have resumes : runPeriod { s with supply := { s.supply with dwell := .stopped } } = .running period := runPeriod_frozen frozenPeriod
    rw [begins, resumes] at moved
    have rests : t.monitorLeaveHold = t := by
      rw [leaveHold_rests (by rw [moved]; exact free) (by rw [moved]; exact catch_) (by rw [moved]; exact stop)
        (.inl (by rw [moved]; exact ⟨off, ign⟩))]
      exact reactIdle_below (by rw [moved]; exact below)
    have judged : t.rejudgeWarning = t := by
      refine rejudgeWarning_none (fun _ => ?_) fun no => absurd no ?_
      · rw [level, moved]
        exact above
      · rw [moved]
        exact Bool.eq_false_iff.1.mt (not_not_intro armed)
    have still : t.journalLeaveHold = t := journalLeaveHold_none (by rw [moved]; exact another) (by rw [moved]; exact waiting)
    refine ⟨t, (act_on live.1 _).trans (congrArg _ ?_), moved, power, kept⟩
    rw [restartDwellExpiry_eq hold dwell, if_neg (by rw [prior]; decide), entered, rests, judged, still]
  · obtain ⟨t, entered, moved, lost, same, power, zeros, kept⟩ := enterDoze_off
      (s := { s with supply := { s.supply with dwell := .stopped } }) form live.2 off
    have rests : t.monitorLeaveHold = t := by
      rw [leaveHold_rests (by rw [moved]; exact free) (by rw [moved]; exact catch_) (by rw [moved]; exact stop)
        (.inl (by rw [moved]; exact ⟨off, ign⟩))]
      exact reactIdle_below (by rw [moved]; exact .inl rfl)
    have judged : t.rejudgeWarning = t := by
      refine rejudgeWarning_none (fun _ => ?_) fun no => absurd no ?_
      · rw [level, moved]
        exact above
      · rw [moved]
        exact Bool.eq_false_iff.1.mt (not_not_intro armed)
    have still : t.journalLeaveHold = t := journalLeaveHold_none (by rw [moved]; exact another) (by rw [moved]; exact waiting)
    refine ⟨t, (act_on live.1 _).trans (congrArg _ ?_), moved, lost, same, power, zeros, kept⟩
    rw [restartDwellExpiry_eq hold dwell, if_pos prior, entered, rests, judged, still]
  · exact (act_on on _).trans (congrArg _ (restartDwellExpiry_eq hold dwell))
  · intro m gone runs off
    refine ⟨fun held caught catching timer stays => ?_, fun left catching timer time => ⟨fun ign below => ?_, fun ign at_ => ?_,
        fun ign below free => ?_⟩,
      fun running plain catch_ => ⟨fun left timer known => ?_, fun unknown ign => ?_, fun unknown ign closed free => ?_⟩,
      fun idle plain catch_ stop => ?_⟩
    · exact ⟨_, leaveHold_caught live.2 held caught catching timer stays, runs_of form rfl rfl rfl, rfl⟩
    · rw [leaveHold_catching timer time]
      exact catchResumed_stays catching ign below
    · refine ⟨_, (leaveHold_catching timer time).trans (catchResumed_starts live.2 catching timer ign at_ ordered),
        runs_of form rfl rfl rfl, rfl⟩
    · obtain ⟨j, falls, started, waits⟩ := catchResumed_fails (left := left) live.2 catching ign below free
      refine ⟨_, (leaveHold_catching timer time).trans falls, off_of form rfl rfl started waits, rfl, ?_, registerGains_mapCounts rfl⟩
      exact slotGains_landed .failedCrank rfl fun b => by cases b <;> rfl
    · rw [leaveHold_running running plain catch_ (.inl known)]
      have runs_on : runningStop s s.monitor.stopTimer.resume =
          if s.board.engineSpeed.value < s.tune.start.stop then .running left else .stopped := by
        refine if_congr (and_iff_right known) ?_ rfl
        rcases timer with ⟨stopped, rfl⟩ | frozen
        · rw [show s.monitor.stopTimer = .stopped from stopped]
          rfl
        · rw [show s.monitor.stopTimer = .frozen left from frozen]
          rfl
      rw [runs_on]
    · rw [leaveHold_running running plain catch_ (.inr ign)]
      have stopped : runningStop s s.monitor.stopTimer.resume = .stopped := if_neg fun h => h.1 unknown
      rw [stopped]
    · obtain ⟨j, stops, started, waits⟩ := leaveHold_stops live.2 running plain catch_ unknown ign closed free
      exact ⟨_, stops, off_of form rfl rfl started waits, rfl⟩
    · intro kept
      have rests : kept → restsByIgn s := fun h => by
        rcases idle with off_ | armed
        · exact .inl ⟨off_, by simpa [kept, m, off_] using h⟩
        · exact .inr ⟨armed, by simpa [kept, m, armed] using h⟩
      refine ⟨fun h below => ?_, fun h at_ => ?_, fun off_ ign below => ?_, fun armed ign below free => ?_⟩
      · exact (leaveHold_rests plain catch_ stop (rests h)).trans (reactIdle_below below)
      · refine ⟨_, speedHandOn_out out, ?_⟩
        have first : s.react.monitor.firstReading = s.monitor.firstReading := by
          rw [react_idle idle, reactIdle_atRun live.2 at_ ordered idle]
        rw [leaveHold_rests plain catch_ stop (rests h), ← react_idle idle]
        show s.react = { s.react with monitor := { s.react.monitor with firstReading := s.monitor.firstReading } }
        rw [← first]
      · have arms := leaveHold_arms live.2 off_ plain catch_ stop ign below
        obtain ⟨shown, kept⟩ := inStart_shown (s := s) (t := s.monitorLeaveHold) form (st := .armed) (by rw [arms]; rfl)
        exact ⟨_, rfl, shown, kept, by rw [arms]; rfl⟩
      · obtain ⟨j, disarms, started, waits⟩ := leaveHold_disarms live.2 armed plain catch_ stop ign below free
        exact ⟨_, disarms, off_of form rfl rfl started waits, rfl⟩
  · rw [← level s]
    refine ⟨fun armed low => if_pos ⟨armed, low⟩, fun disarmed high => ?_, rejudgeWarning_none, fun free wants => ?_,
      journalLeaveHold_none⟩
    · unfold State.rejudgeWarning
      rw [if_neg fun h => by simp [disarmed] at h]
      exact if_pos ⟨by simp [disarmed], high⟩
    · have starts : s.journalLeaveHold = s.startCheckpoint := by
        refine if_pos ⟨by rw [free.1]; rfl, wants.imp id fun waits => Option.isSome_iff_ne_none.2 waits⟩
      exact ⟨_, starts, startCheckpoint_free free⟩

end Sys2Proof.Proofs
end

section
/-! DEPOT left: by its slip, by its timer, by a crank and by an engine that runs without one (R157, R158). -/
namespace Sys2Proof.Proofs
open Sys2Proof Sys2Proof.Machine

/-- What a slip that waits for its checkpoint leaves of a part (R150). -/
structure Waits (s t : State) (h : Held) : Prop where
  frame : t = { s with
    scanner := { s.scanner with state := .waitSave, held := some h }
    journal := t.journal
    port := { s.port with mem := t.port.mem, notice := s.port.notice ||| (if s.sequenceSpent then 4 else 0) } }
  free : s.journalFree → t.journal.startedFrom s ∧ t.journal.waiting = some true
  busy : s.journal.writing ≠ none ∨ s.supply.power = .hold → t.journal = { s.journal with another := true, waiting := some false }
  spent : s.sequenceSpent → t.journal = s.givenUp (some false)
  kept : bytesKept s t scannerBytes

theorem waitSave_waits {s : State} (high : s.resetLow = false) (form : s.port.mem.wf)
    (journal : s.journalFree ∨ s.journal.writing ≠ none ∨ s.supply.power = .hold ∨ s.sequenceSpent) (h : Held) :
    Waits s (s.waitSave h) h := by
  have kept := setScanner_kept form { s.scanner with state := .waitSave, held := some h }
  have frame := s.setScanner_frame { s.scanner with state := .waitSave, held := some h }
  unfold State.waitSave
  dsimp only
  generalize s.setScanner { s.scanner with state := .waitSave, held := some h } = t at kept frame ⊢
  have waiting : t.withJournal { t.journal with waiting := some false } = { s with
      scanner := { s.scanner with state := .waitSave, held := some h }
      journal := { s.journal with waiting := some false }
      port := { s.port with mem := t.port.mem } } := by
    rw [frame]
    rfl
  rw [waiting]
  obtain ⟨moved, free, busy, spent⟩ := trigger_triggered (s := { s with
      scanner := { s.scanner with state := .waitSave, held := some h }
      journal := { s.journal with waiting := some false }
      port := { s.port with mem := t.port.mem } }) high journal
  exact ⟨by rw [moved], free, busy, spent, bytesKept_trans kept (bytesKept_of_mem (by rw [moved]) _)⟩

/-- An accepted DEPOT-OUT (R158), by the journal it finds. -/
theorem exec_depotOut {s : State} {p : Slip} (holds : s.holdsSlip .depotOut p) (high : s.resetLow = false) (form : s.port.mem.wf)
    (length : p.inLength = 0) (depot : s.depot.state = .depot)
    (journal : s.journalFree ∨ s.journal.writing ≠ none ∨ s.supply.power = .hold ∨ s.sequenceSpent) :
    ∃ t, exec .depotOut s = .next t
      ∧ t = { s with
          depot := { s.depot with state := .normal, timer := .stopped }
          scanner := { s.scanner with state := .waitSave, held := some ⟨p, 0, 0⟩ }
          journal := t.journal
          port := { s.port with mem := t.port.mem, notice := s.port.notice ||| (if s.sequenceSpent then 4 else 0) } }
      ∧ (s.journalFree → t.journal.startedFrom s ∧ t.journal.waiting = some true)
      ∧ (s.journal.writing ≠ none ∨ s.supply.power = .hold → t.journal = { s.journal with another := true, waiting := some false })
      ∧ (s.sequenceSpent → t.journal = s.givenUp (some false))
      ∧ t.byteAt 0x06 = 0 ∧ bytesKept s t (fun a => scannerBytes a ∨ within 0x06 2 a) := by
  obtain ⟨frame, wf, state, _, kept⟩ := publishDepot_shown
    (s := s.withDepot { s.depot with state := .normal, timer := .stopped }) form high
  have answer : depotOutWork p s =
      (.wait 0 0, (s.withDepot { s.depot with state := .normal, timer := .stopped }).publishDepot) := by
    unfold depotOutWork
    rw [if_neg (not_not_intro length), if_neg (not_not_intro depot)]
  have waits := exec_wait (c := .depotOut) holds rfl answer
  generalize (s.withDepot { s.depot with state := .normal, timer := .stopped }).publishDepot = d at *
  have became : d = { s with
      depot := { s.depot with state := .normal, timer := .stopped }, port := { s.port with mem := d.port.mem } } := frame
  obtain ⟨moved, free, busy, spent, scanned⟩ := waitSave_waits (s := d) (by rw [became]; exact high) wf (by rw [became]; exact journal)
    ⟨p, 0, 0⟩
  generalize d.waitSave ⟨p, 0, 0⟩ = t at *
  have memory : bytesKept s t (fun a => scannerBytes a ∨ within 0x06 2 a) := fun a inside out =>
    (scanned a inside fun h => out (.inl h)).trans (kept a inside fun h => out (.inr h))
  have depotByte : t.byteAt 0x06 = 0 := (scanned 6 (by decide) (by unfold scannerBytes; omega)).trans state
  rw [became] at moved free busy spent
  exact ⟨t, waits, moved, free, busy, spent, depotByte, memory⟩

/-- A debounced line, its change delivered (R38, R40, R41). -/
theorem exec_debounceExpiry {s : State} (on : s.powered = true) {line : Line} {level : Bool}
    (pending : (s.lines.get line).pendingLevel = some level) :
    exec (.debounceExpiry line) s = .next (({ s with
      lines := s.lines.set line { s.lines.get line with level := level, pendingLevel := none } } : State).deliverLine line level) := by
  refine (act_on on _).trans (congrArg _ ?_)
  unfold debounceExpiry
  dsimp only
  rw [pending]
  rfl

theorem wake_run {s : State} (run : s.supply.power = .run) : s.wake = s := by
  unfold State.wake
  rw [run]

/-- A debounced CRANK rise in RUN, the crank source LINE (R74). -/
theorem crankRise_line {s : State} (run : s.supply.power = .run) (source : s.tune.supply.crankSource = .line) :
    s.deliverLine .crank true = (s.evidenceBegins .line).wake := by
  have begins : s.monitorCrankRise = s.evidenceBegins .line := by
    unfold State.monitorCrankRise
    rw [atMonitor_out (by rw [run]; decide), if_pos source]
  show s.monitorCrankRise.wake = _
  rw [begins]

theorem cranked_power (t : State) (source : CrankSource) : (cranked t source).depotAutoLeave.supply = t.supply := by
  rw [depotAutoLeave_frame]
  rfl

/-- The part with an attempt counted at the STARTER slot, and nothing in the register (R83). -/
def attempted (s : State) : State := { s with slots := landed s.slots .crankAttempt }

theorem counted_crankAttempt (s : State) : counted s .crankAttempt = attempted s :=
  congrArg (fun h => ({ s with slots := landed s.slots .crankAttempt, hires := h } : State)) (mapCounts_id s.hires)

/-- Evidence that begins in ARMED (R77). -/
theorem evidenceBegins_armed {s : State} (high : s.resetLow = false) (armed : s.monitor.state = .armed) (source : CrankSource) :
    s.evidenceBegins source = (cranked (attempted s) source).depotAutoLeave := by
  unfold State.evidenceBegins
  rw [armed, ← counted_crankAttempt]
  exact enterCranking_eq (by exact high) (leaveStart_armed (by exact armed)) source

/-- What an entry to CRANKING shows (R88). -/
theorem cranked_shown {t : State} (form : t.port.mem.wf) (source : CrankSource) :
    (cranked t source).byteAt 0x05 = 2 ∧ bytesKept t (cranked t source) (fun a => a = 0x05) :=
  inStart_shown form (st := .cranking) rfl

/-- A journal that is free, or writes a page, or is in HOLD, has its sequence left. -/
theorem not_spent {s : State} (journal : s.journalFree ∨ s.journal.writing ≠ none ∨ s.supply.power = .hold) : ¬ s.sequenceSpent := by
  rintro ⟨idle, out, last⟩
  rcases journal with free | busy | hold
  · exact journalFree_not_spent free ⟨idle, out, last⟩
  · exact busy idle
  · exact out hold

/-- What a leave of DEPOT beside the monitor's own work comes to (R157). -/
def leavesDepot (s t : State) : Prop :=
  t.depot = { s.depot with state := .normal, timer := .stopped }
    ∧ t.port.notice = s.port.notice ||| (if s.sequenceSpent then 0x404 else 0x400)
    ∧ (s.journalFree → t.journal.startedFrom { s with slots := t.slots, hires := t.hires }
      ∧ t.journal.waiting = s.journal.waiting.map (fun _ => true))
    ∧ (s.journal.writing ≠ none → t.journal = { s.journal with another := true })
    ∧ (s.sequenceSpent → t.journal = s.givenUp (s.journal.waiting.map (fun _ => false)))
    ∧ t.byteAt 0x06 = 0 ∧ bytesKept s t (within 0x05 3)

/-- The monitor works, DEPOT is left, and the monitor alone moves after it (R157). -/
theorem leavesDepot_of {s u t : State} (left : AutoLeft u u.depotAutoLeave)
    (same : ∃ lines slots hires monitor doze mem, u = { s with
      lines := lines, slots := slots, hires := hires, monitor := monitor, supply := { s.supply with doze := doze }
      port := { s.port with mem := mem } })
    (kept : bytesKept s u (fun a => a = 0x05)) (after : t = { u.depotAutoLeave with monitor := t.monitor }) : leavesDepot s t := by
  obtain ⟨lines, slots, hires, monitor, doze, mem, rfl⟩ := same
  obtain ⟨moved, free, busy, spent, shown, kept_⟩ := left
  have memory (a : Nat) : t.byteAt a = _ := byteAt_congr (congrArg (fun x => x.port.mem) after) a
  have journal := congrArg State.journal after
  refine ⟨?_, ?_, fun h => ?_, fun h => journal.trans (busy (.inl h)), fun h => journal.trans (spent h), (memory 6).trans shown,
    fun a inside out => ?_⟩
  · rw [after, moved]
  · rw [after, moved]
  · obtain ⟨started, waits⟩ := free h
    rw [journal]
    refine ⟨?_, waits⟩
    rw [after, moved]
    exact started
  · unfold within at out
    exact (memory a).trans ((kept_ a inside (by unfold within; omega)).trans (kept a inside (by omega)))

/-- RUNNING entered without a crank by a hand-on of the speed (R73, R76, R86). -/
theorem runsUncranked {s : State} (high : s.resetLow = false) (out : s.supply.power ≠ .hold) (at_ : s.speedAtRun)
    (ordered : s.tune.start.stop ≤ s.tune.start.run) (idle : s.monitor.state = .off ∨ s.monitor.state = .armed) :
    s.speedHandOn = { (uncranked s).depotAutoLeave with monitor := { s.monitor with
      state := .running, stopTimer := .stopped
      firstReading := if s.board.engineSpeed.age = .fresh then false else s.monitor.firstReading } } := by
  have board : (uncranked s).depotAutoLeave.board = s.board := by
    rw [depotAutoLeave_frame, uncranked_frame]
  rw [speedHandOn_out out, react_idle idle, reactIdle_atRun high at_ ordered idle]
  dsimp only
  rw [board]

theorem uncranked_same (s : State) : ∃ lines slots hires monitor doze mem, uncranked s = { s with
    lines := lines, slots := slots, hires := hires, monitor := monitor, supply := { s.supply with doze := doze }
    port := { s.port with mem := mem } } := by
  refine ⟨s.lines, (uncranked s).slots, (uncranked s).hires, (uncranked s).monitor, (uncranked s).supply.doze, (uncranked s).port.mem, ?_⟩
  by_cases off : s.monitor.state = .off
  · rw [uncranked_frame, if_pos off]
  · rw [uncranked_frame, if_neg off]

theorem uncranked_journal {s : State} (journal : s.journalFree ∨ s.journal.writing ≠ none ∨ s.supply.power = .hold ∨ s.sequenceSpent) :
    (uncranked s).journalFree ∨ (uncranked s).journal.writing ≠ none ∨ (uncranked s).supply.power = .hold ∨ (uncranked s).sequenceSpent := by
  obtain ⟨lines, slots, hires, monitor, doze, mem, same⟩ := uncranked_same s
  rw [same]
  exact journal

/-- Settles O43: the leave by its slip and by its timer, and the two by the monitor. -/
theorem depotIsLeft : Obligations.DepotIsLeft := by
  have depotTimer {s : State} (live : s.live) {ms : Nat} (timer : s.depot.timer = .running ms) :
      exec .depotTimerExpiry s = .next s.depotAutoLeave := by
    refine (act_on live.1 _).trans (congrArg _ (if_pos ?_))
    rw [timer]
    rfl
  refine ⟨fun s p holds high form length depot journal => ?_, fun s p holds high form length depot spent => ?_,
    fun s ms live form depot timer journal => ?_, fun s ms live form depot timer spent => ?_, fun s normal => ?_,
    fun s live form run depot journal => ?_⟩
  · obtain ⟨t, done, moved, free, busy, _, shown, kept⟩ := exec_depotOut holds high form length depot
      (journal.imp id (Or.imp id .inl))
    have unset : s.port.notice ||| 0 = s.port.notice := BitVec.or_zero
    rw [if_neg (not_spent journal), unset] at moved
    refine ⟨t, done, ?_, ?_, free, busy, shown, kept⟩
    · rw [moved]
    · rw [moved]
  · obtain ⟨t, done, moved, _, _, given, shown, kept⟩ := exec_depotOut holds high form length depot (.inr (.inr (.inr spent)))
    rw [if_pos spent, given spent] at moved
    exact ⟨t, done, moved, shown, kept⟩
  · obtain ⟨moved, free, busy, _, shown, kept⟩ := depotAutoLeave_left form live.2 depot (journal.imp id (Or.imp id .inl))
    rw [if_neg (not_spent journal)] at moved
    exact ⟨_, depotTimer live timer, moved, free, busy, shown, kept⟩
  · obtain ⟨moved, _, _, given, shown, kept⟩ := depotAutoLeave_left form live.2 depot (.inr (.inr (.inr spent)))
    rw [if_pos spent, given spent] at moved
    exact ⟨_, depotTimer live timer, moved, shown, kept⟩
  · have stays : (if s.depot.timer.isRunning then s.depotAutoLeave else s) = s := by rw [depotAutoLeave_normal normal, ite_self]
    show Host.Outcome.next (if s.powered then (if s.depot.timer.isRunning then s.depotAutoLeave else s) else s) = _
    rw [stays, ite_self]
  · intro leaves
    have journal_ : s.journalFree ∨ s.journal.writing ≠ none ∨ s.supply.power = .hold ∨ s.sequenceSpent :=
      journal.imp id (Or.imp id .inr)
    refine ⟨fun source armed pending => ?_, fun at_ ordered idle => ?_⟩
    · let b : State := { s with lines := { s.lines with crank := { s.lines.crank with level := true, pendingLevel := none } } }
      obtain ⟨start, startKept⟩ := cranked_shown (t := attempted b) form .line
      obtain ⟨moved, free, busy, given, shown, kept⟩ := depotAutoLeave_left (s := cranked (attempted b) .line)
        (memPutAll_wf _ _ _ form) live.2 depot journal_
      have done : exec (.debounceExpiry .crank) s = .next (cranked (attempted b) .line).depotAutoLeave := by
        rw [exec_debounceExpiry (line := .crank) live.1 pending]
        refine congrArg _ ((crankRise_line (s := b) run source).trans ?_)
        rw [evidenceBegins_armed (by exact live.2) (by exact armed)]
        exact wake_run (by rw [depotAutoLeave_frame]; exact run)
      have leaves_ := leavesDepot_of (s := s) (t := (cranked (attempted b) .line).depotAutoLeave)
        ⟨moved, free, busy, given, shown, kept⟩ ⟨_, _, _, _, _, _, rfl⟩ startKept rfl
      refine ⟨_, done, ?_, ?_, leaves_, (kept 5 (by decide) (by unfold within; omega)).trans start⟩
      · rw [moved]
        rfl
      · exact slotGains_landed .crankAttempt (by rw [moved]; rfl) fun b => by cases b <;> rfl
    · intro counts
      have left := depotAutoLeave_left (s := uncranked s) (by rw [uncranked_frame]; exact memPutAll_wf _ _ _ form)
        (by rw [uncranked_frame]; exact live.2) (by rw [uncranked_frame]; exact depot) (uncranked_journal journal_)
      obtain ⟨start, startKept⟩ := inStart_shown (s := s) (t := uncranked s) form (st := .running) (by rw [uncranked_frame])
      have runs := runsUncranked live.2 (by rw [run]; decide) at_ ordered idle
      have leaves_ := leavesDepot_of (s := s) left (uncranked_same s) startKept (t := s.speedHandOn) (by rw [runs])
      refine ⟨_, rfl, ?_, fun first => ?_, fun first => ?_, leaves_, ?_⟩
      · rw [runs, left.frame, uncranked_frame]
      · have none_ : unobservedCounted s = s := if_pos first
        rw [runs, left.frame, uncranked_frame, none_]
        exact ⟨rfl, rfl⟩
      · have one : unobservedCounted s = counted s (.start .unobserved) := if_neg (Bool.eq_false_iff.1 first)
        refine counted_start_gains (cls := .unobserved) (fun c => rfl) ?_ ?_
        · rw [runs, left.frame, uncranked_frame, one]
        · rw [runs, left.frame, uncranked_frame, one]
      · rw [runs]
        exact (left.kept 5 (by decide) (by unfold within; omega)).trans start

end Sys2Proof.Proofs
end

section
/-! The start monitor's events: evidence that begins and ends, an IGN fall, a speed handed on (R73 to R83). -/
namespace Sys2Proof.Proofs
open Sys2Proof Sys2Proof.Machine

/-- The part with a failed crank and an attempt counted (R79, R83). -/
def failedAndAttempted (s : State) : State := attempted (counted s .failedCrank)

/-- Evidence that begins in CATCHING (R79). -/
theorem evidenceBegins_catching {s : State} (high : s.resetLow = false) (catching : s.monitor.state = .catching) (source : CrankSource) :
    s.evidenceBegins source = (cranked { failedAndAttempted s with
      monitor := { s.monitor with catchTimer := .stopped } } source).depotAutoLeave := by
  unfold State.evidenceBegins State.failCrank
  rw [catching, land_eq]
  refine enterCranking_eq (by exact high) ?_ source
  exact (congrArg State.leaveStart (counted_crankAttempt (counted s .failedCrank))).trans (leaveStart_catching (by exact catching))

theorem slotGains_failedAndAttempted {s t : State} (slots : t.slots = (failedAndAttempted s).slots) {f g : Body → Body}
    (failure : ∀ b, Increment.onBody .failedCrank b = f b) (attempt : ∀ b, Increment.onBody .crankAttempt b = g b) :
    slotGains s t .starter (fun b => g (f b)) := by
  have first : slotGains s (counted s .failedCrank) .starter f := slotGains_landed .failedCrank rfl failure
  have second : slotGains (counted s .failedCrank) t .starter g := slotGains_landed .crankAttempt slots attempt
  have places : findSlot (counted s .failedCrank).slots .starter 1 = findSlot s.slots .starter 1 := by
    have kept := s.land_findSlot .failedCrank .starter 1
    rwa [land_eq] at kept
  exact slotGains_trans first second places

/-- RUNNING entered from CRANKING with a start counted, no warning filter running (R78). -/
theorem startRunning_cranking {s : State} (high : s.resetLow = false) (cranking : s.monitor.state = .cranking)
    (filter : s.supply.filter = .stopped) (stays : s.board.engineSpeed.age ≠ .unknown ∨ s.lines.ign.level = true) :
    s.startRunning = { counted s (.start s.classifyStart) with
      monitor := { s.monitor with state := .running, crankTimer := .stopped, stopTimer := runningStop s s.monitor.stopTimer }
      port := { s.port with mem := memPutAll s.port.mem 0x05 (leBytes 1 StartState.running.code) } } := by
  rw [startRunning_enters (by exact high) (leaveStart_cranking (s := counted s (.start s.classifyStart)) cranking filter),
    reactRunning_stays (by exact stays)]
  rfl

/-- CATCHING entered from CRANKING below the run threshold (R78). -/
theorem enterCatching_cranking {s : State} (high : s.resetLow = false) (cranking : s.monitor.state = .cranking)
    (filter : s.supply.filter = .stopped) (below : s.speedBelowRun) :
    s.enterCatching = { s with
      monitor := { s.monitor with state := .catching, crankTimer := .stopped, catchTimer := .running s.tune.start.catchTime }
      port := { s.port with mem := memPutAll s.port.mem 0x05 (leBytes 1 StartState.catching.code) } } := by
  unfold State.enterCatching
  rw [moveStart_eq (st := .catching) (by exact high) (leaveStart_cranking cranking filter) nofun]
  exact if_neg (Bool.eq_false_iff.1 (atRun_false (by exact below)))

theorem evidenceEnds_cranking {s : State} {source : CrankSource} (evidence : s.monitor.evidence = some source)
    (cranking : s.monitor.state = .cranking) : s.evidenceEnds source =
      if s.monitor.caught then ({ s with monitor := { s.monitor with evidence := none } } : State).startRunning
      else ({ s with monitor := { s.monitor with evidence := none } } : State).enterCatching := by
  unfold State.evidenceEnds
  rw [if_pos evidence]
  exact if_pos cranking

/-- The dip that begins evidence (R75, R163). -/
theorem exec_dip {s : State} (on : s.powered = true) {mv : Nat} (dipped : s.supply.dipped = false) (low : mv < s.dipLevel) :
    exec (.batteryBelowCrankDip mv) s =
      .next ({ s with supply := { s.supply with battery := mv, dipped := true } } : State).monitorDip :=
  (act_on on _).trans (congrArg _ (if_pos ⟨low, by rw [dipped]; rfl⟩))

/-- The recovery that ends evidence (R75, R163). -/
theorem exec_recovery {s : State} (on : s.powered = true) {mv : Nat} (dipped : s.supply.dipped = true) (high : s.recoveryLevel < mv) :
    exec (.batteryAboveDipRecovery mv) s =
      .next ({ s with supply := { s.supply with battery := mv, dipped := false } } : State).monitorRecovery :=
  (act_on on _).trans (congrArg _ (if_pos ⟨high, dipped⟩))

theorem ignFall_out {s : State} (out : s.supply.power ≠ .hold) : s.deliverLine .ign false = s.ignFallNow := atMonitor_out out _

/-- Below the run threshold the speed moves nothing but a monitor in RUNNING (R73). -/
theorem react_below {s : State} (below : s.speedBelowRun) (other : s.monitor.state ≠ .running) : s.react = s := by
  cases state : s.monitor.state with
  | off => exact react_off state below
  | armed => exact react_armed state below
  | cranking =>
    unfold State.react
    rw [state]
    exact if_neg (Bool.eq_false_iff.1 (atRun_false below))
  | catching => exact (react_catching state).trans (if_neg (Bool.eq_false_iff.1 (atRun_false below)))
  | running => exact absurd state other

/-- Settles O46: each event by the state it finds. -/
theorem crankRiseBeginsAnAttempt : Obligations.CrankRiseBeginsAnAttempt := by
  unfold Obligations.CrankRiseBeginsAnAttempt
  intro attempt failure failureCounted startsBecome unobserved
  refine ⟨fun s live form run source armed depot pending => ?_, fun s live form run source catching depot pending => ?_,
    fun s mv live form run source armed depot dipped low => ?_, fun s base c live form run cranking filter stop ends => ?_,
    fun s live form run pending filter => ?_, fun s live form run ordered => ?_⟩
  · let b : State := { s with lines := { s.lines with crank := { s.lines.crank with level := true, pendingLevel := none } } }
    obtain ⟨start, startKept⟩ := cranked_shown (t := attempted b) form .line
    have done : exec (.debounceExpiry .crank) s = .next (cranked (attempted b) .line) := by
      rw [exec_debounceExpiry (line := .crank) live.1 pending]
      refine congrArg _ ((crankRise_line (s := b) run source).trans ?_)
      rw [evidenceBegins_armed (by exact live.2) (by exact armed), depotAutoLeave_normal (by exact depot)]
      exact wake_run run
    exact ⟨_, done, rfl, slotGains_landed .crankAttempt rfl fun b => by cases b <;> rfl, start, startKept⟩
  · let b : State := { s with lines := { s.lines with crank := { s.lines.crank with level := true, pendingLevel := none } } }
    obtain ⟨start, startKept⟩ := cranked_shown
      (t := { failedAndAttempted b with monitor := { s.monitor with catchTimer := .stopped } }) form .line
    have done : exec (.debounceExpiry .crank) s = .next (cranked
        { failedAndAttempted b with monitor := { s.monitor with catchTimer := .stopped } } .line) := by
      rw [exec_debounceExpiry (line := .crank) live.1 pending]
      refine congrArg _ ((crankRise_line (s := b) run source).trans ?_)
      rw [evidenceBegins_catching (by exact live.2) (by exact catching), depotAutoLeave_normal (by exact depot)]
      exact wake_run run
    refine ⟨_, done, rfl, ?_, registerGains_mapCounts rfl, start, startKept⟩
    exact slotGains_failedAndAttempted (s := s) (f := failure) (g := attempt) rfl (fun b => by cases b <;> rfl)
      fun b => by cases b <;> rfl
  · intro supply
    have dips : mv < s.dipLevel := by
      show mv < s.tune.supply.voltage.level 10500
      cases h : s.tune.supply.voltage <;> rw [h] at low <;> exact low
    have done := exec_dip live.1 dipped dips
    refine ⟨fun at_ => ?_, fun below => ?_⟩
    · refine done.trans (congrArg _ ((atMonitor_out (by exact run.trans_ne nofun) _).trans (if_neg fun h => ?_)))
      have not_at := h.2
      rw [atRun_true (by exact at_)] at not_at
      cases not_at
    · obtain ⟨start, startKept⟩ := cranked_shown (t := attempted { s with supply := supply }) form .dip
      have none_ : decide s.speedAtRun = false :=
        decide_eq_false fun at_ => absurd ((atRun_true at_).symm.trans (atRun_false below)) (by decide)
      have begins : ({ s with supply := supply } : State).monitorDip = cranked (attempted { s with supply := supply }) .dip := by
        have judged : s.tune.supply.crankSource = .dip ∧ (!s.atRun) = true := ⟨source, by rw [atRun_false below]; rfl⟩
        refine (atMonitor_out (by exact run.trans_ne nofun) _).trans ((if_pos judged).trans ?_)
        rw [evidenceBegins_armed (by exact live.2) (by exact armed), depotAutoLeave_normal (by exact depot)]
      refine ⟨_, done.trans (congrArg _ begins), ?_, slotGains_landed .crankAttempt rfl fun b => by cases b <;> rfl, start, startKept⟩
      exact congrArg (fun caught => ({ cranked (attempted { s with supply := supply }) .dip with
        monitor := { (cranked (attempted { s with supply := supply }) .dip).monitor with caught := caught } } : State)) none_
  · intro ended
    obtain ⟨source, lines, mv, dipped, done, evidence, rfl⟩ : ∃ source lines mv dipped,
        exec c s = .next (base.evidenceEnds source) ∧ s.monitor.evidence = some source
          ∧ base = { s with lines := lines, supply := { s.supply with battery := mv, dipped := dipped } } := by
      rcases ends with ⟨rfl, pending, evidence, rfl⟩ | ⟨mv, rfl, dipped, evidence, high, rfl⟩
      · refine ⟨.line, _, s.supply.battery, s.supply.dipped, ?_, evidence, rfl⟩
        rw [exec_debounceExpiry (line := .crank) live.1 pending]
        exact congrArg _ (atMonitor_out (by exact run.trans_ne nofun) _)
      · refine ⟨.dip, s.lines, mv, false, ?_, evidence, rfl⟩
        have recovers : s.recoveryLevel < mv := by
          show s.tune.supply.voltage.level 11000 < mv
          cases h : s.tune.supply.voltage <;> rw [h] at high <;> exact high
        rw [exec_recovery live.1 dipped recovers]
        exact congrArg _ (atMonitor_out (by exact run.trans_ne nofun) _)
    rw [evidenceEnds_cranking (by exact evidence) (by exact cranking)] at done
    refine ⟨fun caught known => ?_, fun uncaught below => ?_⟩
    · rw [if_pos (by exact caught), startRunning_cranking (by exact live.2) (by exact cranking) (by exact filter) (.inl (by exact known))]
        at done
      have stops : runningStop s s.monitor.stopTimer =
          if s.board.engineSpeed.value < s.tune.start.stop then .running 1000 else .stopped := by
        rw [stop]
        exact if_congr (and_iff_right known) rfl rfl
      obtain ⟨shown, kept, gains, register⟩ := runs_of (s := s) (t := { counted s (.start s.classifyStart) with
        port := { s.port with mem := memPutAll s.port.mem 0x05 (leBytes 1 StartState.running.code) } }) form rfl rfl rfl
      refine ⟨_, done, ?_, gains, register, shown, kept⟩
      rw [← stops]
      rfl
    · rw [if_neg (by exact Bool.eq_false_iff.1 uncaught), enterCatching_cranking (by exact live.2) (by exact cranking) (by exact filter)
        (by exact below)] at done
      obtain ⟨shown, kept⟩ := inStart_shown (s := s) (t := { s with port := { s.port with
        mem := memPutAll s.port.mem 0x05 (leBytes 1 StartState.catching.code) } }) form (st := .catching) rfl
      exact ⟨_, done, rfl, shown, kept⟩
  · intro base dozing_
    have done := exec_debounceExpiry (line := .ign) live.1 pending
    have falls : base.deliverLine .ign false = base.ignFallNow := ignFall_out (s := base) (run.trans_ne nofun)
    change exec _ s = .next (base.deliverLine .ign false) at done
    rw [falls] at done
    have dozes : dozing s = dozing_ := if_pos run
    refine ⟨fun off => done.trans (congrArg _ (ignFallNow_off off)), fun running known => ?_, fun free below =>
      ⟨fun armed => ?_, fun cranks => ?_, fun running unknown closed => ?_⟩⟩
    · refine done.trans (congrArg _ ?_)
      unfold State.ignFallNow
      rw [show base.monitor.state = .running from running]
      exact if_pos ((known_iff _).2 known)
    · obtain ⟨j, entered, started, _⟩ := enterIdle_off (s := base) (t := base) live.2 (leaveStart_armed armed) free below
      have rests : base.ignFallNow = base.enterIdle .off := by
        unfold State.ignFallNow
        rw [show base.monitor.state = .armed from armed]
      rw [rests, entered, show dozing base = dozing_ from dozes] at done
      obtain ⟨shown, kept⟩ := inStart_shown (s := s) (t := inStart s .off) form rfl
      exact ⟨_, done, rfl, started, shown, kept⟩
    · have rests : base.ignFallNow = (counted base .failedCrank).enterIdle .off := by
        unfold State.ignFallNow State.failCrank
        rcases cranks with cranking | catching
        · rw [show base.monitor.state = .cranking from cranking, land_eq]
          rfl
        · rw [show base.monitor.state = .catching from catching, land_eq]
          rfl
      let left : Monitor := if s.monitor.state = .cranking then { s.monitor with crankTimer := .stopped }
        else { s.monitor with catchTimer := .stopped }
      have leaves : (counted base .failedCrank).leaveStart = { counted base .failedCrank with monitor := left } := by
        rcases cranks with cranking | catching
        · rw [leaveStart_cranking (s := counted base .failedCrank) cranking filter, show left = _ from if_pos cranking]
          rfl
        · rw [leaveStart_catching (s := counted base .failedCrank) catching,
            show left = _ from if_neg (by rw [catching]; decide)]
          rfl
      obtain ⟨j, entered, started, _⟩ := enterIdle_off (by exact live.2) leaves (by exact free) (by exact below)
      rw [rests, entered] at done
      obtain ⟨shown, kept⟩ := inStart_shown (s := s) (t := inStart s .off) form rfl
      refine ⟨_, done, ?_, slotGains_landed .failedCrank rfl fun b => by cases b <;> rfl, registerGains_mapCounts rfl, started,
        shown, kept⟩
      have monitor : ({ left with state := .off } : Monitor) =
          if s.monitor.state = .cranking then { s.monitor with state := .off, crankTimer := .stopped }
          else { s.monitor with state := .off, catchTimer := .stopped } := by
        unfold left
        split <;> rfl
      rw [← dozes]
      exact congrArg (fun m => ({ inStart { counted base .failedCrank with monitor := left } .off with
        monitor := m, supply := dozing s, journal := j } : State)) monitor
    · obtain ⟨j, entered, started, _⟩ := moveStart_off (by exact live.2) (confirmStop_leaves (s := base) running closed) (by exact free)
      have rests : base.ignFallNow = (base.withMonitor { base.monitor with lastStop := some base.now }).moveStart .off := by
        unfold State.ignFallNow
        rw [show base.monitor.state = .running from running]
        exact if_neg fun known => (known_iff _).1 known unknown
      rw [rests, entered, dozing, if_pos (by exact run)] at done
      obtain ⟨shown, kept⟩ := inStart_shown (s := s) (t := inStart s .off) form rfl
      exact ⟨_, done, rfl, started, shown, kept⟩
  · intro read
    have out : s.supply.power ≠ .hold := run.trans_ne nofun
    have hands := speedHandOn_out out
    have handed {v : State} (react : s.react = v) (board : v.board = s.board) : s.speedHandOn = { v with
        monitor := { v.monitor with
          firstReading := if s.board.engineSpeed.age = .fresh then false else v.monitor.firstReading } } := by
      rw [hands, react]
      dsimp only
      rw [board]
    have cranking_ (cranking : s.monitor.state = .cranking) : s.react = if s.atRun then s.withMonitor { s.monitor with caught := true } else s := by
      unfold State.react
      rw [cranking]
    have running_ (running : s.monitor.state = .running) : s.react = s.reactRunning := by
      unfold State.react
      rw [running]
    refine ⟨fun at_ idle depot => ?_, fun at_ catching => ?_, fun at_ cranking => ?_, fun below other => ?_,
      fun ms running known timer => ?_, fun running unknown ign => ?_, fun fresh => ?_⟩
    · have runs := runsUncranked live.2 out at_ ordered idle
      have normal : (uncranked s).depotAutoLeave = uncranked s := depotAutoLeave_normal (by rw [uncranked_frame]; exact depot)
      rw [normal] at runs
      obtain ⟨start, startKept⟩ := inStart_shown (s := s) (t := s.speedHandOn) form (st := .running) (by rw [runs, uncranked_frame])
      refine ⟨_, rfl, ?_, fun first => ?_, fun first => ?_, start, startKept⟩
      · rw [runs, uncranked_frame]
      · have none_ : unobservedCounted s = s := if_pos first
        rw [runs, uncranked_frame, none_]
        exact ⟨rfl, rfl⟩
      · have one : unobservedCounted s = counted s (.start .unobserved) := if_neg (Bool.eq_false_iff.1 first)
        refine counted_start_gains (cls := .unobserved) (fun c => rfl) ?_ ?_
        · rw [runs, uncranked_frame, one]
        · rw [runs, uncranked_frame, one]
    · have react := (react_catching catching).trans ((if_pos (atRun_true at_)).trans (startRunning_catching live.2 catching (.inl at_.1)))
      have stopped : runningStop s s.monitor.stopTimer = .stopped := by
        refine if_neg fun h => ?_
        have reached := at_.2
        have slow := h.2
        omega
      rw [stopped] at react
      have runs := handed react rfl
      obtain ⟨shown, kept, gains, register⟩ := runs_of (s := s) (t := s.speedHandOn) form (by rw [runs]) (by rw [runs]) (by rw [runs])
      exact ⟨_, rfl, by rw [runs]; rfl, gains, register, shown, kept⟩
    · exact handed ((cranking_ cranking).trans (if_pos (atRun_true at_))) rfl
    · exact handed (react_below below other) rfl
    · have stops : runningStop s s.monitor.stopTimer = if s.board.engineSpeed.value < s.tune.start.stop then
            (if s.monitor.stopTimer = .stopped then .running 1000 else .running ms)
          else .stopped := by
        refine if_congr (and_iff_right known) ?_ rfl
        rcases timer with stopped | runs
        · rw [stopped]
          rfl
        · rw [runs]
          rfl
      rw [← stops]
      exact handed ((running_ running).trans (reactRunning_stays (.inl known))) rfl
    · have stops : runningStop s s.monitor.stopTimer = .stopped := if_neg fun h => h.1 unknown
      rw [← stops]
      exact handed ((running_ running).trans (reactRunning_stays (.inr ign))) rfl
    · refine ⟨s.putRecord .engineSpeed { s.board.engineSpeed with age := .held }, ?_, putRecord_frame s _ _, putRecord_kept form _ _⟩
      exact (act_on live.1 _).trans (congrArg _ (if_pos fresh))

end Sys2Proof.Proofs
end

section
/-! CLUTCH and GEAR at the board: a record put, its change handed to the cycle counter, the evaluation of the gear (R29 to R34). -/
namespace Sys2Proof.Proofs
open Sys2Proof Sys2Proof.Machine

/-- A change to a FRESH record is one of value, or from UNKNOWN (R34). -/
theorem changed_fresh {old new : QRecord} (fresh : new.age = .fresh) :
    old.changed new = true ↔ old.age = .unknown ∨ old.value ≠ new.value := by
  have known : new.known = true := (known_iff new).2 (by rw [fresh]; decide)
  unfold QRecord.changed
  rw [known, Bool.or_eq_true, decide_eq_true_eq, bne_iff_ne, or_comm]
  refine or_congr ?_ Iff.rfl
  rw [ne_eq, known_iff]
  exact not_not

/-- What a FRESH record put leaves of a part, with its mirror (R35). -/
theorem putFresh {s : State} (form : s.port.mem.wf) (high : s.resetLow = false) (q : Quantity) (v : Int) (source : Source) :
    ∃ t, s.putRecord q (s.freshRecord v source) = t
      ∧ t = { s with board := s.board.set q ⟨v, .fresh, source, some s.supply.recorderTime, .running 0⟩
                     port := { s.port with mem := t.port.mem } }
      ∧ t.byteAt (0x52 + 12 * quantityIndex q) = 1 ∧ bytesKept s t (within (0x50 + 12 * quantityIndex q) 12) := by
  refine ⟨_, rfl, putRecord_frame s q _, ?_, putRecord_kept form q _⟩
  have byte := putRecord_byteAt form high q (s.freshRecord v source) (i := 2) (by decide)
  rw [show 0x52 + 12 * quantityIndex q = 0x50 + 12 * quantityIndex q + 2 by omega, byte]
  rfl

/-- A FRESH record put, and handed to the cycle counter (R34, R110). -/
theorem putHanded {s : State} (form : s.port.mem.wf) (high : s.resetLow = false) (q : Quantity) (v : Int) (source : Source) :
    ∃ u, (s.putRecord q (s.freshRecord v source)).cycleHandOn = u
      ∧ u = { s with board := s.board.set q ⟨v, .fresh, source, some s.supply.recorderTime, .running 0⟩
                     samples := u.samples, port := { s.port with mem := u.port.mem } }
      ∧ State.feedsCounter { s with board := s.board.set q ⟨v, .fresh, source, some s.supply.recorderTime, .running 0⟩ } u.samples
      ∧ u.byteAt (0x52 + 12 * quantityIndex q) = 1 ∧ bytesKept s u (within (0x50 + 12 * quantityIndex q) 12) := by
  obtain ⟨t, put, moved, shown, kept⟩ := putFresh form high q v source
  have feeds := cycleHandOn_feeds t
  have frame := t.cycleHandOn_frame
  have memory : t.cycleHandOn.port.mem = t.port.mem := by rw [frame]
  rw [put]
  refine ⟨_, rfl, ?_, ?_, (byteAt_congr memory _).trans shown, bytesKept_trans kept (bytesKept_of_mem memory _)⟩
  · rw [frame, moved]
  · generalize t.cycleHandOn.samples = samples at feeds ⊢
    rw [moved] at feeds
    exact feeds

/-! ### The derived gear (R30, R31) -/

theorem evaluateGear_rests {s : State} (rests : ¬ s.board.derivationDue) : s.evaluateGear = s := if_neg rests

theorem evaluateGear_due {s : State} {g : Int} (due : s.board.derivationDue) (derives : s.derives g) :
    s.evaluateGear = s.putGear (s.freshRecord g .derived) := by
  have gear := s.derivedGear_eq g derives
  unfold State.evaluateGear
  dsimp only
  rw [if_pos due, gear]

/-- A gear derived that is no change (R34). -/
theorem evaluateGear_same {s : State} {g : Int} (due : s.board.derivationDue) (derives : s.derives g)
    (known : s.board.gear.age ≠ .unknown) (same : s.board.gear.value = g) :
    s.evaluateGear = s.putRecord .gear (s.freshRecord g .derived) := by
  rw [evaluateGear_due due derives]
  refine if_neg fun changed => ?_
  rcases (changed_fresh rfl).1 changed with unknown | other
  · exact known unknown
  · exact other same

/-- A gear derived that is a change, handed to the cycle counter and then to the duty meter (R34). -/
theorem evaluateGear_changed {s : State} {g : Int} (due : s.board.derivationDue) (derives : s.derives g)
    (changes : s.board.gear.age = .unknown ∨ s.board.gear.value ≠ g) :
    s.evaluateGear = (s.putRecord .gear (s.freshRecord g .derived)).cycleHandOn.dutyGear := by
  rw [evaluateGear_due due derives]
  exact if_pos ((changed_fresh rfl).2 changes)

/-! ### CLUTCH presented (R29) -/

/-- The value of the CLUTCH line. -/
def clutchLevel (s : State) : Int := if s.lines.clutch.level = true then 1 else 0

theorem presentClutch_unwired {s : State} (unwired : s.tune.start.clutchWired = false) : s.presentClutch = s :=
  if_neg (by rw [unwired]; decide)

theorem presentClutch_wired {s : State} (wired : s.tune.start.clutchWired = true) :
    s.presentClutch = s.putClutch (s.freshRecord (clutchLevel s) .line) := if_pos wired

theorem presentClutch_same {s : State} (wired : s.tune.start.clutchWired = true) (known : s.board.clutch.age ≠ .unknown)
    (same : s.board.clutch.value = clutchLevel s) : s.presentClutch = s.putRecord .clutch (s.freshRecord (clutchLevel s) .line) := by
  rw [presentClutch_wired wired]
  refine if_neg fun changed => ?_
  rcases (changed_fresh rfl).1 changed with unknown | other
  · exact known unknown
  · exact other same

theorem presentClutch_changed {s : State} (wired : s.tune.start.clutchWired = true)
    (changes : s.board.clutch.age = .unknown ∨ s.board.clutch.value ≠ clutchLevel s) :
    s.presentClutch = (s.putRecord .clutch (s.freshRecord (clutchLevel s) .line)).cycleHandOn.evaluateGear := by
  rw [presentClutch_wired wired]
  exact if_pos ((changed_fresh rfl).2 changes)

end Sys2Proof.Proofs
end

section
/-! The lines: debounce, starting levels, and what a debounced change does (R38 to R41, R54, R156, R166). -/
namespace Sys2Proof.Proofs
open Sys2Proof Sys2Proof.Machine

/-- Moves keep the canonical form of exchange memory. -/
theorem moves_wf {s t : State} (moves : Moves s t) (form : s.port.mem.wf) : t.port.mem.wf :=
  moves.keep (fun s => s.port.mem.wf) form fun m k => m.keeps_memoryForm k

/-! ### Starting levels (R39) -/

theorem settled_iff (l : Lines) : l.settled = true ↔ ∀ line, (l.get line).starting = false := by
  unfold Lines.settled
  simp only [Bool.and_eq_true, Bool.not_eq_true']
  constructor
  · rintro ⟨⟨⟨ign, crank⟩, clutch⟩, reverse⟩ line
    cases line with
    | ign => exact ign
    | crank => exact crank
    | clutch => exact clutch
    | reverse => exact reverse
  · exact fun all => ⟨⟨⟨all .ign, all .crank⟩, all .clutch⟩, all .reverse⟩

theorem lines_get_set_other (l : Lines) {line other : Line} (v : LineState) (h : other ≠ line) :
    (l.set line v).get other = l.get other := by
  cases line with
  | ign =>
    cases other with
    | ign => exact absurd rfl h
    | _ => rfl
  | crank =>
    cases other with
    | crank => exact absurd rfl h
    | _ => rfl
  | clutch =>
    cases other with
    | clutch => exact absurd rfl h
    | _ => rfl
  | reverse =>
    cases other with
    | reverse => exact absurd rfl h
    | _ => rfl

theorem lines_get_set_same (l : Lines) (line : Line) (v : LineState) : (l.set line v).get line = v := by
  cases line <;> rfl

/-- The part with a line's starting level given, the level no change (R39). -/
def levelGiven (s : State) (line : Line) : State :=
  { s with lines := s.lines.set line { s.lines.get line with
    level := (s.lines.get line).raw, pendingLevel := none, starting := false } }

/-- The part with a starting level given and, for an active IGN, taken by the monitor and the supply monitor (R39, R86). -/
def levelTaken (s : State) (line : Line) : State :=
  if line = .ign ∧ (s.lines.get line).raw then (levelGiven s line).monitorIgnRise.wake else levelGiven s line

theorem exec_startingLevel {s : State} {line : Line} (on : s.powered = true) (starting : (s.lines.get line).starting = true) :
    exec (.startingLevel line) s = .next (if (levelTaken s line).lines.settled ∧ (levelTaken s line).supply.power ≠ .hold
      ∧ ¬ (levelTaken s line).supply.started then (levelTaken s line).enterRun else levelTaken s line) :=
  (act_on on _).trans (congrArg _ (if_pos starting))

theorem levelTaken_inactive {s : State} {line : Line} (inactive : ¬ (line = .ign ∧ (s.lines.get line).raw)) :
    levelTaken s line = levelGiven s line := if_neg inactive

theorem levelTaken_active {s : State} (active : s.lines.ign.raw = true) :
    levelTaken s .ign = (levelGiven s .ign).monitorIgnRise.wake := if_pos ⟨rfl, active⟩

/-- A starting level while another is still to be given. -/
theorem startingLevel_waits {s t : State} {line other : Line} (on : s.powered = true)
    (starting : (s.lines.get line).starting = true) (waits : (s.lines.get other).starting = true) (differ : other ≠ line)
    (taken : levelTaken s line = t) (lines : t.lines = (levelGiven s line).lines) : exec (.startingLevel line) s = .next t := by
  rw [exec_startingLevel on starting, taken]
  refine congrArg _ (if_neg fun h => ?_)
  have still := (settled_iff _).1 h.1 other
  rw [lines, levelGiven, lines_get_set_other _ _ differ, waits] at still
  cases still

/-! ### An IGN rise (R40, R54, R76, R156, R165, R166) -/

/-- An IGN rise at depot control (R156). -/
theorem depotIgnRise_shown {s : State} (form : s.port.mem.wf) (high : s.resetLow = false) :
    ∃ t, s.depotIgnRise = t
      ∧ t = { s with depot := { s.depot with wrongCodes := 0, lockout := false }, port := { s.port with mem := t.port.mem } }
      ∧ (s.depot.lockout = true → t.byteAt 0x07 = 0) ∧ bytesKept s t (within 0x06 2) := by
  unfold State.depotIgnRise
  by_cases locked : s.depot.lockout = true
  · obtain ⟨frame, _, _, lockout, kept⟩ := publishDepot_shown
      (s := s.withDepot { s.depot with wrongCodes := 0, lockout := false }) form high
    rw [if_pos locked]
    exact ⟨_, rfl, frame, fun _ => lockout, kept⟩
  · rw [if_neg locked]
    exact ⟨_, rfl, rfl, fun h => absurd h locked, fun _ _ _ => rfl⟩

/-- A supply LOCKED-OFF at an IGN rise goes to TRIAL in RUN (R54). -/
theorem sensorIgnRise_run {s : State} (run : s.supply.power = .run) : s.sensorIgnRise = { s with
    sensor := if s.sensor.state = .lockedOff then ⟨.trial, 0, .stopped, .running 50⟩ else s.sensor } := by
  unfold State.sensorIgnRise
  by_cases locked : s.sensor.state = .lockedOff
  · rw [if_pos locked, if_pos run, if_pos locked]
    exact setSensor_still fun h => by simp [locked] at h
  · rw [if_neg locked, if_neg locked]

/-- A supply LOCKED-OFF at an IGN rise outside RUN goes OFF (R54). -/
theorem sensorIgnRise_rest {s : State} (rest : s.supply.power ≠ .run) : s.sensorIgnRise = { s with
    sensor := if s.sensor.state = .lockedOff then ⟨.off, 0, .stopped, .stopped⟩ else s.sensor } := by
  unfold State.sensorIgnRise
  by_cases locked : s.sensor.state = .lockedOff
  · rw [if_pos locked, if_neg rest, if_pos locked]
    exact setSensor_still fun h => by simp [locked] at h
  · rw [if_neg locked, if_neg locked]

theorem wakeAndSensor_ordered {s : State} (ordered : ¬ (s.supply.power = .doze ∧ s.sensor.state = .lockedOff)) :
    s.wakeAndSensor = s.wake.sensorIgnRise := if_neg ordered

/-- An IGN rise at the monitor in OFF below the run threshold (R76). -/
theorem monitorIgnRise_off {s : State} (high : s.resetLow = false) (out : s.supply.power ≠ .hold) (off : s.monitor.state = .off)
    (below : s.speedBelowRun) :
    s.monitorIgnRise = inStart { s with supply := { s.supply with doze := .stopped } } .armed :=
  (atMonitor_out out _).trans ((if_pos off).trans (enterIdle_armed (by exact high) (leaveStart_off off) (by exact below)))

theorem monitorIgnRise_other {s : State} (other : s.monitor.state ≠ .off) : s.monitorIgnRise = s :=
  atMonitor_same (if_neg other)

theorem monitorIgnRise_hold {s : State} (hold : s.supply.power = .hold) : s.monitorIgnRise = s := if_pos hold

theorem wake_hold {s : State} (hold : s.supply.power = .hold) : s.wake = { s with supply := { s.supply with prior := .run } } := by
  unfold State.wake
  rw [hold]
  rfl

theorem wake_doze {s : State} (doze : s.supply.power = .doze) : s.wake = s.enterRun := by
  unfold State.wake
  rw [doze]

/-- What is left of an IGN rise in RUN once the monitor has taken it (R54, R156). -/
theorem riseTaken_run {s : State} (form : s.port.mem.wf) (high : s.resetLow = false) (run : s.supply.power = .run) :
    ∃ t, s.wakeAndSensor.depotIgnRise = t
      ∧ t = { s with
          depot := { s.depot with wrongCodes := 0, lockout := false }
          sensor := if s.sensor.state = .lockedOff then ⟨.trial, 0, .stopped, .running 50⟩ else s.sensor
          port := { s.port with mem := t.port.mem } }
      ∧ (s.depot.lockout = true → t.byteAt 0x07 = 0) ∧ bytesKept s t (within 0x06 2) := by
  rw [wakeAndSensor_ordered fun h => by simp [run] at h, wake_run run, sensorIgnRise_run run]
  exact depotIgnRise_shown (s := { s with
    sensor := if s.sensor.state = .lockedOff then ⟨.trial, 0, .stopped, .running 50⟩ else s.sensor }) form high

/-- What is left of an IGN rise in HOLD (R54, R156, R165). -/
theorem riseTaken_hold {s : State} (form : s.port.mem.wf) (high : s.resetLow = false) (hold : s.supply.power = .hold) :
    ∃ t, s.wakeAndSensor.depotIgnRise = t
      ∧ t = { s with
          supply := { s.supply with prior := .run }
          depot := { s.depot with wrongCodes := 0, lockout := false }
          sensor := if s.sensor.state = .lockedOff then ⟨.off, 0, .stopped, .stopped⟩ else s.sensor
          port := { s.port with mem := t.port.mem } }
      ∧ (s.depot.lockout = true → t.byteAt 0x07 = 0) ∧ bytesKept s t (within 0x06 2) := by
  rw [wakeAndSensor_ordered fun h => by simp [hold] at h, wake_hold hold, sensorIgnRise_rest (by simp [hold])]
  exact depotIgnRise_shown (s := { s with
    supply := { s.supply with prior := .run }
    sensor := if s.sensor.state = .lockedOff then ⟨.off, 0, .stopped, .stopped⟩ else s.sensor }) form high

theorem within_depot {a : Nat} (out : ¬ within 0x05 3 a) : ¬ within 0x06 2 a ∧ a ≠ 0x05 := by
  unfold within at *
  omega

/-- Settles O45: the debounce, the starting levels, the IGN rise, and what the board is given. -/
theorem linesAreDebounced : Obligations.LinesAreDebounced := by
  refine ⟨fun line s on => ?_, fun s other live form run differ waits starting => ?_, fun s live hold starting => ?_,
    fun s line live form out unstarted differ last sensor doze period => ?_, fun s live form pending => ?_,
    fun s line level on run pending => ?_, fun s live form => ?_⟩
  · intro l
    have acts (level : Bool) : exec (.lineRawChange line level) s = .next (lineRawChange line level s) := act_on on _
    refine ⟨fun level given differ => ?_, fun given => ?_, fun level given => ?_, fun level which rest pending => ?_,
      fun other notIgn differ starting waits => ?_⟩
    · refine (acts level).trans (congrArg _ ?_)
      unfold lineRawChange
      dsimp only
      rw [if_neg (Bool.eq_false_iff.1 given), if_neg differ]
      rfl
    · refine (acts l.level).trans (congrArg _ ?_)
      unfold lineRawChange
      dsimp only
      rw [if_neg (Bool.eq_false_iff.1 given), if_pos rfl]
      rfl
    · refine (acts level).trans (congrArg _ ?_)
      unfold lineRawChange
      dsimp only
      rw [if_pos given]
      rfl
    · rw [exec_debounceExpiry on pending]
      rcases which with rfl | rfl
      · exact congrArg _ (if_neg rest)
      · exact congrArg _ (if_neg fun h => rest h.1)
    · exact startingLevel_waits on starting waits differ (levelTaken_inactive fun h => notIgn h.1) rfl
  · intro given
    refine ⟨fun inactive => ?_, fun active off below => ?_⟩
    · exact startingLevel_waits (line := .ign) live.1 starting waits differ (levelTaken_inactive fun h => Bool.false_ne_true (inactive.symm.trans h.2)) rfl
    · have arms : (levelGiven s .ign).monitorIgnRise.wake =
          inStart { levelGiven s .ign with supply := { s.supply with doze := .stopped } } .armed := by
        rw [monitorIgnRise_off (by exact live.2) (by exact run.trans_ne nofun) (by exact off) (by exact below)]
        exact wake_run run
      obtain ⟨shown, kept⟩ := inStart_shown (s := s) (t := inStart s .armed) form rfl
      refine ⟨_, startingLevel_waits (line := .ign) live.1 starting waits differ ((levelTaken_active active).trans arms) rfl, rfl, shown, kept⟩
  · rw [exec_startingLevel (line := .ign) live.1 starting]
    have taken : levelTaken s .ign = { levelGiven s .ign with
        supply := { s.supply with prior := if s.lines.ign.raw = true then .run else s.supply.prior } } := by
      by_cases active : s.lines.ign.raw = true
      · rw [levelTaken_active active, if_pos active, monitorIgnRise_hold (by exact hold), wake_hold (by exact hold)]
        rfl
      · rw [levelTaken_inactive (line := .ign) fun h => active h.2, if_neg active]
        rfl
    rw [taken]
    exact congrArg _ (if_neg fun h => h.2.1 hold)
  · have taken : levelTaken s line = levelGiven s line := levelTaken_inactive fun h => differ h.1
    have settled : (levelGiven s line).lines.settled = true := by
      refine (settled_iff _).2 fun other => ?_
      by_cases same : other = line
      · rw [same, levelGiven, lines_get_set_same]
      · rw [levelGiven, lines_get_set_other _ _ same, last other]
        exact decide_eq_false same
    have starting : (s.lines.get line).starting = true := (last line).trans (decide_eq_true rfl)
    obtain ⟨t, entered, moved, shown, kept⟩ := enterRun_on (s := levelGiven s line) form live.2 (congrArg Sensor.state sensor)
      (congrArg Sensor.retry sensor)
    have begins : runDoze (levelGiven s line) = if s.monitor.state = .off then .running 30000 else .stopped := by
      unfold runDoze
      rw [show (levelGiven s line).supply.doze = .stopped from doze]
      rfl
    have periods : runPeriod (levelGiven s line) = .running (1000 * s.tune.period) := by
      unfold runPeriod
      rw [show (levelGiven s line).journal.period = .stopped from period]
      rfl
    rw [begins, periods] at moved
    refine ⟨t, ?_, moved, shown, kept⟩
    rw [exec_startingLevel live.1 starting, taken, if_pos ⟨settled, out, by rw [show (levelGiven s line).supply.started = false from unstarted]; decide⟩, entered]
  · intro base wasOff lockoutShown
    let b : State := { s with lines := { s.lines with ign := { s.lines.ign with level := true, pendingLevel := none } } }
    have done : exec (.debounceExpiry .ign) s = .next b.monitorIgnRise.wakeAndSensor.depotIgnRise :=
      exec_debounceExpiry (line := .ign) live.1 pending
    refine ⟨fun run below => ?_, fun hold => ?_, fun period doze off below sensor timer frozen => ?_⟩
    · by_cases off : s.monitor.state = .off
      · rw [monitorIgnRise_off (s := b) live.2 (run.trans_ne nofun) off (below off)] at done
        obtain ⟨start, startKept⟩ := inStart_shown (s := s) (t := inStart b .armed) form rfl
        obtain ⟨t, taken, moved, shown, kept⟩ := riseTaken_run (s := inStart { b with supply := { s.supply with doze := .stopped } } .armed)
          (memPutAll_wf _ _ _ form) live.2 run
        rw [taken] at done
        refine ⟨t, done, ?_, fun _ => (kept 5 (by decide) (by unfold within; omega)).trans start, shown, fun a inside out => ?_⟩
        · rw [if_pos off, if_pos off]
          exact moved
        · obtain ⟨other, notStart⟩ := within_depot out
          exact (kept a inside other).trans (startKept a inside notStart)
      · rw [monitorIgnRise_other (s := b) off] at done
        obtain ⟨t, taken, moved, shown, kept⟩ := riseTaken_run (s := b) form live.2 run
        rw [taken] at done
        refine ⟨t, done, ?_, fun h => absurd h off, shown, fun a inside out => kept a inside (within_depot out).1⟩
        rw [if_neg off, if_neg off]
        exact moved
    · rw [monitorIgnRise_hold (s := b) hold] at done
      obtain ⟨t, taken, moved, shown, kept⟩ := riseTaken_hold (s := b) form live.2 hold
      exact ⟨t, done.trans (congrArg _ taken), moved, shown, kept⟩
    · rw [monitorIgnRise_off (s := b) live.2 (doze.trans_ne nofun) off below] at done
      obtain ⟨start, startKept⟩ := inStart_shown (s := s) (t := inStart b .armed) form rfl
      obtain ⟨t, entered, moved, power, powerKept⟩ := enterRun_on
        (s := inStart { b with supply := { s.supply with doze := .stopped } } .armed)
        (memPutAll_wf _ _ _ form) live.2 (congrArg Sensor.state sensor) (congrArg Sensor.retry sensor)
      have begins : runDoze (inStart { b with supply := { s.supply with doze := .stopped } } .armed) = s.supply.doze := timer.symm
      have periods : runPeriod (inStart { b with supply := { s.supply with doze := .stopped } } .armed) = .running period :=
        runPeriod_frozen frozen
      rw [begins, periods] at moved
      obtain ⟨u, taken, last, shown, kept⟩ := depotIgnRise_shown (s := t)
        (by rw [← entered]; exact moves_wf (Moves.refl _).enterRun (memPutAll_wf _ _ _ form)) (by rw [moved]; exact live.2)
      have on : t.sensorIgnRise = t := if_neg (by rw [moved]; exact nofun)
      have unlocked : s.sensor.state ≠ .lockedOff := by rw [sensor]; exact nofun
      rw [wakeAndSensor_ordered (by exact fun h => unlocked h.2), wake_doze (by exact doze), entered, on, taken] at done
      have lockout : t.depot.lockout = s.depot.lockout := by rw [moved]; rfl
      rw [lockout] at shown
      refine ⟨u, done, ?_, (kept 4 (by decide) (by unfold within; omega)).trans power,
        (kept 5 (by decide) (by unfold within; omega)).trans ((powerKept 5 (by decide) (by omega)).trans start), shown,
        fun a inside out => ?_⟩
      · rw [last, moved]
        rfl
      · unfold within at out
        exact (kept a inside (by unfold within; omega)).trans
          ((powerKept a inside (by omega)).trans (startKept a inside (by omega)))
  · intro base
    have done := exec_debounceExpiry on pending
    refine ⟨fun clutch => ?_, fun reverse => ?_⟩
    · subst clutch
      exact done.trans (congrArg _ (if_pos run))
    · subst reverse
      refine done.trans (congrArg _ ?_)
      by_cases wired : s.tune.start.reverseWired = true
      · rw [if_pos wired]
        exact if_pos ⟨run, wired⟩
      · rw [if_neg wired]
        exact if_neg fun h => wired h.2
  · refine ⟨?_, evaluateGear_rests, fun g due derives => ?_⟩
    · intro level shown
      refine ⟨presentClutch_unwired, fun wired known same => ?_, fun wired changes => ?_⟩
      · rw [presentClutch_same wired known same]
        exact putFresh form live.2 .clutch _ _
      · obtain ⟨u, put, moved, feeds, byte, kept⟩ := putHanded form live.2 .clutch (clutchLevel s) .line
        exact ⟨u, by rw [presentClutch_changed wired changes, put], moved, feeds, byte, kept⟩
    · intro geared
      refine ⟨fun known same => ?_, fun changes => ?_⟩
      · rw [evaluateGear_same due derives known same]
        exact putFresh form live.2 .gear _ _
      · obtain ⟨u, put, moved, feeds, byte, kept⟩ := putHanded form live.2 .gear g .derived
        exact ⟨u, by rw [evaluateGear_changed due derives changes, put], moved, feeds, byte, kept⟩

end Sys2Proof.Proofs
end

section
/-! The pulse windows: edges, the judgement of a window, the fault counter, and the speed of each channel (R42 to R48). -/
namespace Sys2Proof.Proofs
open Sys2Proof Sys2Proof.Machine

/-! ### The judgement of a window (R45) -/

theorem implausible_toothless {s : State} {ch : Channel} (teeth : s.tune.pulse.teeth ch = 0) : s.implausible ch = (false, s) :=
  if_pos teeth

theorem implausible_over {s : State} {ch : Channel} (teeth : s.tune.pulse.teeth ch ≠ 0)
    (excess : 2000 < (s.pulse.get ch).edges ∨ (s.pulse.get ch).mark = true) : s.implausible ch = (true, s) :=
  (if_neg teeth).trans (if_pos excess)

theorem implausible_clear {s : State} {ch : Channel} (few : (s.pulse.get ch).edges ≤ 2000) (unmarked : (s.pulse.get ch).mark = false)
    (some_ : 1 ≤ (s.pulse.get ch).edges ∨ ch = .p3) : s.implausible ch = (false, s) := by
  unfold State.implausible
  dsimp only
  split
  · rfl
  rw [if_neg fun excess => ?_]
  · split
    next none_ =>
      have third : ch = .p3 := some_.resolve_left (by omega)
      rw [third]
      rfl
    next => rfl
  · rcases excess with many | marked
    · omega
    · exact Bool.false_ne_true (unmarked.symm.trans marked)

theorem implausible_untied {s : State} {ch : Channel} {bad : Bool} (untied : s.board.untied) (judged : bad = true ↔ s.windowBad ch) :
    s.implausible ch = (bad, s) := by
  obtain ⟨same, iff⟩ := s.implausible_iff ch untied
  exact Prod.ext (Bool.eq_iff_iff.2 (iff.trans judged.symm)) same

/-! ### The fault counter (R47, R48) -/

/-- A channel's counter and health after a judged window. -/
def steppedFault (s : State) (ch : Channel) (bad : Bool) : Nat × Health :=
  stepFault s.tune.pulse.limit (s.pulse.get ch).counter (s.pulse.get ch).health bad

/-- The part once the counter is stepped, with CHANNEL at an entry to FAULTED. -/
def stepped (s : State) (ch : Channel) (bad : Bool) : State :=
  { s with
    pulse := s.pulse.set ch { s.pulse.get ch with counter := (steppedFault s ch bad).1, health := (steppedFault s ch bad).2 }
    port := { s.port with
      notice := if (s.pulse.get ch).health = .good ∧ (steppedFault s ch bad).2 = .faulted then s.port.notice ||| 0x20
        else s.port.notice } }

theorem stepChannel_eq {s : State} (high : s.resetLow = false) (ch : Channel) (bad : Bool) : s.stepChannel ch bad = stepped s ch bad := by
  unfold State.stepChannel stepped
  by_cases faults : (s.pulse.get ch).health = .good ∧ (steppedFault s ch bad).2 = .faulted
  · rw [if_pos faults]
    exact (if_pos faults).trans (State.setNotice_live _ _ (by exact high))
  · rw [if_neg faults]
    exact if_neg faults

theorem stepped_channel (s : State) (ch : Channel) (bad : Bool) : (stepped s ch bad).pulse.get ch =
    { s.pulse.get ch with counter := (steppedFault s ch bad).1, health := (steppedFault s ch bad).2 } := by
  unfold stepped
  exact (pulse_get_set _ _ _ _).trans (if_pos rfl)

/-! ### The speed of a window (R25, R43, R44) -/

/-- The speed of the window that ends. -/
def windowSpeed (s : State) (ch : Channel) : Nat := min 8000 ((s.pulse.get ch).edges * 600 / s.tune.pulse.teeth ch)

theorem offerSpeed_rests {s : State} {ch : Channel} (rests : s.tune.pulse.teeth ch = 0 ∨ (s.pulse.get ch).health = .faulted) :
    s.offerSpeed ch = s := by
  refine if_neg fun feeds => ?_
  rcases rests with toothless | faulted
  · exact feeds.1 toothless
  · have good := feeds.2
    rw [faulted] at good
    cases good

theorem offerSpeed_feeds {s : State} {ch : Channel} (teeth : s.tune.pulse.teeth ch ≠ 0) (good : (s.pulse.get ch).health = .good) :
    s.offerSpeed ch = s.applySample (channelQuantity ch) (windowSpeed s ch : Int) .pulse := by
  have clamped : clampInt 0 8000 (((s.pulse.get ch).edges * 600 / s.tune.pulse.teeth ch : Nat) : Int) = (windowSpeed s ch : Int) := by
    unfold clampInt windowSpeed
    generalize (s.pulse.get ch).edges * 600 / s.tune.pulse.teeth ch = n
    omega
  unfold State.offerSpeed
  dsimp only
  rw [if_pos ⟨teeth, good⟩, clamped]

/-- The speed of a window handed on, and at P0 CLUTCH presented (R44). -/
def speedHanded (ch : Channel) (u : State) : State :=
  match ch with
  | .p0 => u.speedHandOn.presentClutch
  | .p1 => u.evaluateGear
  | .p2 => u.evaluateGear
  | .p3 => u

/-- The record of the window's speed put at the board. -/
def speedPut (s : State) (ch : Channel) (bad : Bool) : State :=
  (stepped s ch bad).refresh (channelQuantity ch) (windowSpeed s ch : Int) .pulse

/-! ### The end of a window -/

/-- The next window begun, marked unless the sensor supply is ON (R42, R46). -/
def windowBegun (s : State) (ch : Channel) (t : State) : State :=
  { t with pulse := t.pulse.set ch { t.pulse.get ch with edges := 0, mark := decide (s.sensor.state ≠ .on) } }

theorem nextWindow_begun {s t : State} (sensor : t.sensor = s.sensor) (ch : Channel) : t.nextWindow ch = windowBegun s ch t := by
  unfold windowBegun
  rw [State.nextWindow_frame, sensor]

theorem Beside.presentClutch {s₀ s : State} (h : Beside s₀ s) : Beside s₀ s.presentClutch := by
  unfold State.presentClutch
  split
  · exact h.applySample _ _ _
  · exact h

theorem exec_windowEnd {s : State} {ch : Channel} {bad : Bool} (live : s.live) (windows : s.pulse.windows = true)
    (judged : s.implausible ch = (bad, s)) : exec (.windowEnd ch) s = .next ((if ch = .p0 then
      ((stepped s ch bad).offerSpeed ch).presentClutch else (stepped s ch bad).offerSpeed ch).nextWindow ch) := by
  refine (act_on live.1 _).trans (congrArg _ ?_)
  unfold windowEnd
  rw [if_pos windows, judged]
  dsimp only
  rw [stepChannel_eq live.2]

/-- A window that offers no speed (R25, R43). -/
theorem exec_windowEnd_rests {s : State} {ch : Channel} {bad : Bool} (live : s.live) (windows : s.pulse.windows = true)
    (judged : s.implausible ch = (bad, s)) (rests : s.tune.pulse.teeth ch = 0 ∨ (steppedFault s ch bad).2 = .faulted) :
    exec (.windowEnd ch) s = .next (windowBegun s ch (if ch = .p0 then (stepped s ch bad).presentClutch else stepped s ch bad)) := by
  have rests_ : (stepped s ch bad).tune.pulse.teeth ch = 0 ∨ ((stepped s ch bad).pulse.get ch).health = .faulted := by
    rw [stepped_channel]
    exact rests
  rw [exec_windowEnd live windows judged, offerSpeed_rests rests_]
  refine congrArg _ (nextWindow_begun ?_ ch)
  split
  · exact (Beside.refl _).presentClutch.sensor
  · rfl

theorem speedHanded_sensor (ch : Channel) (u : State) : (speedHanded ch u).sensor = u.sensor := by
  cases ch with
  | p0 => exact (Beside.refl u).speedHandOn.presentClutch.sensor
  | p1 => exact (Beside.refl u).evaluateGear.sensor
  | p2 => exact (Beside.refl u).evaluateGear.sensor
  | p3 => rfl

/-- A window whose speed is applied and handed on (R25, R43, R44). -/
theorem exec_windowEnd_feeds {s : State} {ch : Channel} {bad : Bool} (live : s.live) (windows : s.pulse.windows = true)
    (judged : s.implausible ch = (bad, s)) (teeth : s.tune.pulse.teeth ch ≠ 0) (good : (steppedFault s ch bad).2 = .good) :
    exec (.windowEnd ch) s = .next (windowBegun s ch (speedHanded ch (speedPut s ch bad))) := by
  have speed : windowSpeed (stepped s ch bad) ch = windowSpeed s ch := by
    unfold windowSpeed
    rw [stepped_channel]
    rfl
  have handed : (if ch = .p0 then ((stepped s ch bad).offerSpeed ch).presentClutch else (stepped s ch bad).offerSpeed ch)
      = speedHanded ch (speedPut s ch bad) := by
    rw [offerSpeed_feeds (s := stepped s ch bad) teeth (by rw [stepped_channel]; exact good), speed]
    cases ch <;> rfl
  rw [exec_windowEnd live windows judged, handed]
  refine congrArg _ (nextWindow_begun ?_ ch)
  rw [speedHanded_sensor]
  exact ((Beside.refl _).refresh _ _ _).sensor

end Sys2Proof.Proofs
end

section
/-! Edges and window ends as a whole (R42 to R48). -/
namespace Sys2Proof.Proofs
open Sys2Proof Sys2Proof.Machine

theorem pulse_set_set (p : Pulse) (ch : Channel) (v w : ChannelState) : (p.set ch v).set ch w = p.set ch w := by
  cases ch <;> rfl

/-- The first byte of a channel's mirror. -/
def channelMirror (ch : Channel) : Nat := 0x50 + 12 * quantityIndex (channelQuantity ch)

theorem speedPut_eq (s : State) (ch : Channel) (bad : Bool) : speedPut s ch bad = { stepped s ch bad with
    board := s.board.set (channelQuantity ch) ⟨(windowSpeed s ch : Int), .fresh, .pulse, some s.supply.recorderTime, .running 0⟩
    port := { (stepped s ch bad).port with mem := (speedPut s ch bad).port.mem } } :=
  putRecord_frame (stepped s ch bad) _ _

theorem speedPut_kept {s : State} (form : s.port.mem.wf) (ch : Channel) (bad : Bool) :
    bytesKept s (speedPut s ch bad) (within (channelMirror ch) 12) :=
  putRecord_kept (s := stepped s ch bad) form _ _

theorem speedPut_value {s : State} (form : s.port.mem.wf) (high : s.resetLow = false) (ch : Channel) (bad : Bool) :
    memLe (speedPut s ch bad).port.mem 2 (channelMirror ch) = windowSpeed s ch := by
  obtain ⟨value, _⟩ := record_reads (t := speedPut s ch bad) (a := channelMirror ch)
    fun i hi => putRecord_byteAt (s := stepped s ch bad) form high (channelQuantity ch) _ hi
  have low : windowSpeed s ch ≤ 8000 := Nat.min_le_left _ _
  rw [value]
  show ((windowSpeed s ch : Int) % 65536).toNat = windowSpeed s ch
  omega

/-- A plausible window of a GOOD channel leaves it GOOD, its counter 1 less (R47). -/
theorem steppedFault_good {s : State} {ch : Channel} (good : (s.pulse.get ch).health = .good) :
    steppedFault s ch false = ((s.pulse.get ch).counter - 1, .good) := by
  unfold steppedFault
  rw [good]
  rfl

theorem steppedFault_passed (s : State) (ch : Channel) : steppedFault s ch false = ((s.pulse.get ch).counter - 1,
    if (s.pulse.get ch).health = .good ∨ (s.pulse.get ch).counter ≤ 1 then .good else .faulted) := by
  unfold steppedFault
  cases health : (s.pulse.get ch).health with
  | good => rw [if_pos (.inl rfl)]; rfl
  | faulted =>
    refine congrArg (fun h => ((s.pulse.get ch).counter - 1, h)) (if_congr ?_ rfl rfl)
    simp only [reduceCtorEq, false_or]
    omega

/-- A plausible window begins the next with the counter 1 less, and no notice (R47). -/
theorem windowBegun_passed (s : State) (ch : Channel) : windowBegun s ch (stepped s ch false) = { s with
    pulse := s.pulse.set ch ⟨0, decide (s.sensor.state ≠ .on), (s.pulse.get ch).counter - 1,
      if (s.pulse.get ch).health = .good ∨ (s.pulse.get ch).counter ≤ 1 then .good else .faulted⟩ } := by
  have quiet : ¬ ((s.pulse.get ch).health = .good ∧ (steppedFault s ch false).2 = .faulted) := by
    rintro ⟨good, faulted⟩
    rw [steppedFault_good good] at faulted
    cases faulted
  unfold windowBegun
  rw [stepped_channel]
  unfold stepped
  rw [if_neg quiet, steppedFault_passed, pulse_set_set]

/-- The part after a plausible window of a GOOD channel, before the next window begins. -/
theorem stepped_good {s : State} {ch : Channel} (good : (s.pulse.get ch).health = .good) : stepped s ch false = { s with
    pulse := s.pulse.set ch { s.pulse.get ch with counter := (s.pulse.get ch).counter - 1, health := .good } } := by
  unfold stepped
  rw [steppedFault_good good, if_neg fun h => by cases h.2]

/-- The channel as it begins its next window after a plausible one, GOOD. -/
def passedGood (s : State) (ch : Channel) : ChannelState := ⟨0, decide (s.sensor.state ≠ .on), (s.pulse.get ch).counter - 1, .good⟩

theorem windowBegun_good {s t : State} {ch : Channel}
    (pulse : t.pulse = s.pulse.set ch { s.pulse.get ch with counter := (s.pulse.get ch).counter - 1, health := .good }) :
    windowBegun s ch t = { t with pulse := s.pulse.set ch (passedGood s ch) } := by
  unfold windowBegun
  rw [pulse, pulse_set_set, pulse_get_set, if_pos rfl]
  rfl

theorem dutyGear_frame (s : State) : s.dutyGear = { s with
    duty := s.dutyGear.duty, slots := s.dutyGear.slots, hires := s.dutyGear.hires } := by
  unfold State.dutyGear
  split
  · split
    · rfl
    next old _ =>
      dsimp only
      by_cases same : old = s.board.gear.value
      · rw [if_pos same]
      · rw [if_neg same]
        by_cases running : s.monitor.state = .running
        · rw [if_pos running, State.land_frame]
          rfl
        · rw [if_neg running]
          rfl
  · rfl

/-- A window of a shaft speed, its board and mirror (R30, R43). -/
theorem exec_windowEnd_shaft {s : State} {ch : Channel} (live : s.live) (windows : s.pulse.windows = true) (shaft : ch = .p1 ∨ ch = .p2)
    (teeth : s.tune.pulse.teeth ch ≠ 0) (good : (s.pulse.get ch).health = .good) (some_ : 1 ≤ (s.pulse.get ch).edges)
    (few : (s.pulse.get ch).edges ≤ 2000) (unmarked : (s.pulse.get ch).mark = false) :
    exec (.windowEnd ch) s = .next (windowBegun s ch (speedPut s ch false).evaluateGear) := by
  have fed := exec_windowEnd_feeds live windows (implausible_clear few unmarked (.inl some_)) teeth (by rw [steppedFault_good good])
  rcases shaft with rfl | rfl <;> exact fed

/-- Settles O47: the table, the edges, and each window end by its judgement. -/
theorem pulseWindowsCountAndEnd : Obligations.PulseWindowsCountAndEnd := by
  refine ⟨fun limit counter => ⟨rfl, rfl, rfl, ?_⟩, fun ch s live => ?_, fun s live form windows run teeth good some_ few unmarked => ?_,
    fun ch s bad live form windows untied judged => ?_, fun ch s live form windows shaft teeth => ?_⟩
  · exact congrArg (fun h => (counter - 1, h)) (if_congr (by omega) rfl rfl)
  · intro c fresh passed
    refine ⟨fun still => ⟨?_, ?_⟩, fun windows => ?_, fun windows other toothless => ?_, fun windows third teeth good few unmarked form => ?_,
      fun windows third teeth excess good limit => ?_⟩
    · exact (act_on live.1 _).trans (congrArg _ (if_neg (Bool.eq_false_iff.1 still)))
    · exact (act_on live.1 _).trans (congrArg _ (if_neg (Bool.eq_false_iff.1 still)))
    · exact (act_on live.1 _).trans (congrArg _ (if_pos windows))
    · rw [exec_windowEnd_rests live windows (implausible_toothless toothless) (.inl toothless), if_neg other]
      exact congrArg _ (windowBegun_passed s ch)
    · subst third
      have judged := implausible_clear (s := s) (ch := .p3) few unmarked (.inr rfl)
      have fed := exec_windowEnd_feeds live windows judged teeth (by rw [steppedFault_good good])
      intro rpm speed
      have moved := (speedPut_eq s .p3 false).trans (by rw [stepped_good good])
      refine ⟨_, fed, ?_, speedPut_kept form .p3 false⟩
      refine (windowBegun_good (t := speedPut s .p3 false) (by rw [moved])).trans ?_
      rw [moved]
      rfl
    · subst third
      have judged := implausible_over (s := s) (ch := .p3) teeth excess
      have faults : steppedFault s .p3 true = (c.counter + 1, .faulted) := by
        unfold steppedFault
        rw [show (s.pulse.get .p3).health = .good from good]
        exact congrArg (fun h => (c.counter + 1, h)) (if_pos limit)
      rw [exec_windowEnd_rests live windows judged (.inr (by rw [faults])), if_neg (by decide)]
      refine congrArg _ ?_
      unfold windowBegun stepped
      rw [faults, if_pos ⟨good, rfl⟩]
      rfl
  · intro rpm unwired other below
    have fed := exec_windowEnd_feeds live windows (implausible_clear (s := s) (ch := .p0) few unmarked (.inl some_)) teeth
      (by rw [steppedFault_good (by exact good)])
    have moved := (speedPut_eq s .p0 false).trans (by rw [stepped_good (by exact good)])
    have kept := speedPut_kept form .p0 false
    change exec _ s = .next (windowBegun s .p0 (speedPut s .p0 false).speedHandOn.presentClutch) at fed
    generalize speedPut s .p0 false = u at fed moved kept
    have react : u.react = u := by
      refine react_below (.inr ?_) (by rw [moved]; exact other)
      rw [moved]
      exact Int.ofNat_lt.2 below
    have handed : u.speedHandOn = { u with monitor := { u.monitor with firstReading := false } } := by
      rw [speedHandOn_out (by rw [moved]; exact run.trans_ne nofun), react]
      rw [if_pos (by rw [moved]; rfl)]
    rw [handed, presentClutch_unwired (by rw [moved]; exact unwired)] at fed
    refine ⟨_, fed, ?_, kept⟩
    refine (windowBegun_good (by rw [moved])).trans ?_
    rw [moved]
    rfl
  · intro c after stepped_ begun rpm speed board place
    have judged_ := implausible_untied untied judged
    refine ⟨fun rests => exec_windowEnd_rests live windows judged_ rests, fun teeth good => ?_⟩
    have where_ : place = channelMirror ch := by cases ch <;> rfl
    rw [where_]
    refine ⟨speedPut s ch bad, exec_windowEnd_feeds live windows judged_ teeth good, ?_, speedPut_value form live.2 ch bad,
      speedPut_kept form ch bad⟩
    have put : board = s.board.set (channelQuantity ch)
        ⟨(windowSpeed s ch : Int), .fresh, .pulse, some s.supply.recorderTime, .running 0⟩ := by cases ch <;> rfl
    rw [put]
    exact speedPut_eq s ch bad
  · intro c good some_ few unmarked rpm speed board place pulse
    have ends := exec_windowEnd_shaft live windows shaft teeth good some_ few unmarked
    have moved := (speedPut_eq s ch false).trans (by rw [stepped_good (by exact good)])
    have kept := speedPut_kept form ch false
    have form_ : (speedPut s ch false).port.mem.wf := putRecord_wf (s := stepped s ch false) form _ _
    generalize speedPut s ch false = u at ends moved kept form_
    have put : u.board = board := by
      rw [moved]
      rcases shaft with rfl | rfl <;> rfl
    have where_ (a : Nat) : place a ↔ within (channelMirror ch) 12 a := by
      rcases shaft with rfl | rfl <;> exact Iff.rfl
    have gear : board.gear = s.board.gear := by
      rcases shaft with rfl | rfl <;> rfl
    clear_value board place
    have moved_ : u = { s with
        pulse := s.pulse.set ch { s.pulse.get ch with counter := (s.pulse.get ch).counter - 1, health := .good }
        board := board, port := { s.port with mem := u.port.mem } } := by
      rw [← put, moved]
    have high : u.resetLow = false := by rw [moved_]; exact live.2
    refine ⟨fun rests => ?_, fun g due derives => ?_⟩
    · rw [evaluateGear_rests (by rw [put]; exact rests)] at ends
      refine ⟨_, ends, ?_, fun a inside out => kept a inside fun h => out ((where_ a).2 h)⟩
      refine (windowBegun_good (by rw [moved_])).trans ?_
      rw [moved_]
      rfl
    · intro geared
      have derives_ : u.derives g := by rw [moved_]; exact derives
      have due_ : u.board.derivationDue := by rw [put]; exact due
      have gear_ : u.board.gear = s.board.gear := by rw [put]; exact gear
      by_cases changes : s.board.gear.age = .unknown ∨ s.board.gear.value ≠ g
      · obtain ⟨v, putV, movedV, feeds, _, keptV⟩ := putHanded form_ high .gear g .derived
        have frame := dutyGear_frame v
        rw [evaluateGear_changed due_ derives_ (by rw [gear_]; exact changes), putV] at ends
        have memory : bytesKept v v.dutyGear (fun _ => False) := bytesKept_of_mem (by rw [frame]) _
        have pulse_ : v.dutyGear.pulse = s.pulse.set ch
            { s.pulse.get ch with counter := (s.pulse.get ch).counter - 1, health := .good } := by rw [frame, movedV, moved_]
        generalize v.dutyGear = w at ends frame memory pulse_
        refine ⟨_, ends, ?_, fun a inside out => ?_, fun known same => ?_, fun _ => ?_⟩
        · refine (windowBegun_good pulse_).trans ?_
          rw [frame, movedV, moved_]
          rfl
        · have here : ¬ within 0xA4 12 a := fun h => out (.inr h)
          exact (memory a inside nofun).trans ((keptV a inside here).trans (kept a inside fun h => out (.inl ((where_ a).2 h))))
        · exact (changes.elim known fun other => other same).elim
        · have samples : (windowBegun s ch w).samples = v.samples := by rw [frame]; rfl
          rw [samples]
          rw [moved_] at feeds
          exact feeds
      · have known : s.board.gear.age ≠ .unknown := fun h => changes (.inl h)
        have same : s.board.gear.value = g := not_not.1 fun h => changes (.inr h)
        obtain ⟨v, putV, movedV, _, keptV⟩ := putFresh form_ high .gear g .derived
        rw [evaluateGear_same due_ derives_ (by rw [gear_]; exact known) (by rw [gear_]; exact same), putV] at ends
        refine ⟨_, ends, ?_, fun a inside out => ?_, fun _ _ => ?_, fun h => absurd h changes⟩
        · refine (windowBegun_good (by rw [movedV, moved_])).trans ?_
          rw [movedV, moved_]
          rfl
        · have here : ¬ within 0xA4 12 a := fun h => out (.inr h)
          exact (keptV a inside here).trans (kept a inside fun h => out (.inl ((where_ a).2 h)))
        · rw [movedV, moved_]
          exact ⟨rfl, rfl, rfl, rfl⟩

end Sys2Proof.Proofs
end

section
/-! The duty meter (R91 to R104): what each of its steps counts. -/
namespace Sys2Proof.Proofs
open Sys2Proof Sys2Proof.Machine

theorem known_true {r : QRecord} (known : r.age ≠ .unknown) : r.known = true := (known_iff r).2 known

theorem unknown_false {r : QRecord} (unknown : r.age = .unknown) : r.known = false := decide_eq_false (not_not_intro unknown)

/-! ### Increments that gain -/

/-- The part after an increment, as an update. -/
theorem counted_eq (s : State) (inc : Increment) : s.land inc = counted s inc := land_eq s inc

/-- No slot gains. -/
theorem slotGains_unchanged {s t : State} (slots : t.slots = s.slots) (cls : ComponentClass) {f : Body → Body}
    (same : ∀ b, f b = b) : slotGains s t cls f := by
  intro i
  rw [slotAt_congr slots]
  cases s.slotAt i with
  | none => rfl
  | some c => simp [same]

theorem registerGains_unchanged {s t : State} (hires : t.hires = s.hires) {f : Counts → Counts} (same : ∀ c, f c = c) :
    registerGains s t f := by
  refine ⟨fun h open_ => ?_, fun closed => ?_⟩
  · rw [same, hires, ← open_]
  · rw [same, hires]

theorem slotGains_congr {s t : State} {cls : ComponentClass} {f g : Body → Body} (gains : slotGains s t cls f)
    (same : ∀ i c, findSlot s.slots cls 1 = some i → s.slotAt i = some c → f c.body = g c.body) : slotGains s t cls g := by
  intro i
  rw [gains i]
  cases at_ : s.slotAt i with
  | none => rfl
  | some c =>
    by_cases here : findSlot s.slots cls 1 = some i
    · simp [here, same i c here at_]
    · simp [here]

theorem counted_findSlot (s : State) (inc : Increment) (cls : ComponentClass) :
    findSlot (counted s inc).slots cls 1 = findSlot s.slots cls 1 := by
  rw [← counted_eq]
  exact s.land_findSlot inc cls 1

/-- Two increments of a class, one after the other. -/
theorem slotGains_twice {s t : State} {one two : Increment} {cls : ComponentClass} {f g : Body → Body} (first : one.cls = cls)
    (second : two.cls = cls) (slots : t.slots = (counted (counted s one) two).slots) (h : ∀ b, one.onBody b = f b)
    (k : ∀ b, two.onBody b = g b) : slotGains s t cls (fun b => g (f b)) := by
  subst first
  have one_ : slotGains s (counted s one) one.cls f := slotGains_landed one rfl h
  have two_ : slotGains (counted s one) t one.cls g := second ▸ slotGains_landed two slots k
  exact slotGains_trans one_ two_ (counted_findSlot s one one.cls)

/-! ### The engagement window closed (R104) -/

/-- The joules of the window that stands open. -/
def windowSum (s : State) : Nat :=
  match s.duty.window with
  | some w => w.sum
  | none => 0

/-- The window that closes slips hot. -/
abbrev windowHot (s : State) : Prop := 1000 * s.tune.clutch.hotSlip < windowSum s

/-- The part with its window closed and judged. -/
def windowClosed (s : State) : State :=
  { (if windowHot s then counted s .hotSlip else s) with
    duty := { s.duty with window := none }
    port := { s.port with notice := if windowHot s then s.port.notice ||| 0x100 else s.port.notice } }

theorem closeWindow_eq {s : State} (high : s.resetLow = false) : s.closeWindow = windowClosed s := by
  unfold State.closeWindow windowClosed
  cases open_ : s.duty.window with
  | none =>
    have cold : ¬ windowHot s := by
      unfold windowHot windowSum
      rw [open_]
      exact Nat.not_lt_zero _
    have same : ({ s.duty with window := none } : Duty) = s.duty := by rw [← open_]
    rw [if_neg cold, if_neg cold, same]
  | some w =>
    have hot : windowHot s ↔ 1000 * s.tune.clutch.hotSlip < w.sum := by
      unfold windowHot windowSum
      rw [open_]
    dsimp only
    by_cases slips : 1000 * s.tune.clutch.hotSlip < w.sum
    · rw [if_pos slips, if_pos (hot.2 slips), if_pos (hot.2 slips), land_eq, State.setNotice_live _ _ (by exact high)]
      rfl
    · rw [if_neg slips, if_neg fun h => slips (hot.1 h), if_neg fun h => slips (hot.1 h)]
      rfl

/-- A body with a hot slip counted, if there was one. -/
def hotBody (hot : Prop) [Decidable hot] : Body → Body
  | .clutch b => .clutch { b with hotSlips := if hot then min Config.eventCeiling (b.hotSlips + 1) else b.hotSlips }
  | b => b

theorem windowClosed_gains {s t : State} (slots : t.slots = (windowClosed s).slots) (hires : t.hires = (windowClosed s).hires) :
    slotGains s t .clutch (hotBody (windowHot s))
      ∧ registerGains s t (fun c => { c with
          hotSlips := if windowHot s then min Config.eventCeiling (c.hotSlips + 1) else c.hotSlips }) := by
  unfold windowClosed at slots hires
  by_cases hot : windowHot s
  · simp only [if_pos hot] at slots hires ⊢
    refine ⟨slotGains_landed .hotSlip slots fun b => ?_, registerGains_mapCounts hires⟩
    cases b with
    | clutch b => simp only [hotBody, if_pos hot]; rfl
    | _ => rfl
  · simp only [if_neg hot] at slots hires ⊢
    refine ⟨slotGains_unchanged slots .clutch fun b => ?_, registerGains_unchanged hires fun c => rfl⟩
    cases b with
    | clutch b => simp only [hotBody, if_neg hot]
    | _ => rfl

/-! ### A gear handed on (R96) -/

theorem inGear_iff (b : Board) : b.inGear = true ↔
    b.gear.age ≠ .unknown ∧ ((1 ≤ b.gear.value ∧ b.gear.value ≤ 12) ∨ b.gear.value = -1 ∨ b.gear.value = -2) := by
  unfold Board.inGear nonNeutral
  rw [Bool.and_eq_true, known_iff, decide_eq_true_eq]

theorem dutyGear_still {s : State} (still : s.board.inGear = false ∨ s.supply.power ≠ .run ∨ s.duty.lastGear = some s.board.gear.value) :
    s.dutyGear = s := by
  unfold State.dutyGear
  by_cases taken : s.supply.power = .run ∧ s.board.inGear = true
  · have last : s.duty.lastGear = some s.board.gear.value := by
      rcases still with idle | out | last
      · exact absurd (idle.symm.trans taken.2) (by decide)
      · exact absurd taken.1 out
      · exact last
    rw [if_pos taken, last]
    exact if_pos rfl
  · exact if_neg taken

theorem dutyGear_taken {s : State} (run : s.supply.power = .run) (geared : s.board.inGear = true)
    (other : s.duty.lastGear ≠ some s.board.gear.value) :
    s.dutyGear = { (if s.duty.lastGear ≠ none ∧ s.monitor.state = .running then counted s .shift else s) with
      duty := { s.duty with lastGear := some s.board.gear.value } } := by
  unfold State.dutyGear
  rw [if_pos ⟨run, geared⟩]
  cases last : s.duty.lastGear with
  | none =>
    rw [if_neg (c := (none : Option Int) ≠ none ∧ s.monitor.state = .running) fun h => h.1 rfl]
    rfl
  | some old =>
    have differ : old ≠ s.board.gear.value := fun same => other (last.trans (congrArg some same))
    dsimp only
    rw [if_neg differ]
    by_cases running : s.monitor.state = .running
    · rw [if_pos running, if_pos ⟨nofun, running⟩, land_eq]
      rfl
    · rw [if_neg running, if_neg fun h => running h.2]
      rfl

/-! ### The PTO and overspeed (R97, R98) -/

theorem meterPto_unknown {s : State} (unknown : s.board.ptoSpeed.age = .unknown) : s.meterPto = s := by
  refine if_pos ?_
  rw [unknown_false unknown]
  rfl

theorem meterPto_slow {s : State} (known : s.board.ptoSpeed.age ≠ .unknown) (slow : s.board.ptoSpeed.value ≤ 100) :
    s.meterPto = { s with duty := { s.duty with ptoAbove := false } } := by
  unfold State.meterPto
  dsimp only
  rw [known_true known, if_neg (by decide), if_neg (by omega)]
  rfl

theorem meterPto_turning {s : State} (known : s.board.ptoSpeed.age ≠ .unknown) (turning : 100 < s.board.ptoSpeed.value) :
    s.meterPto = { counted (if s.duty.ptoAbove then s else counted s .ptoEngagement) .ptoTime with
      duty := { s.duty with ptoAbove := true } } := by
  unfold State.meterPto
  dsimp only
  rw [known_true known, if_neg (by decide), if_pos turning, land_eq, land_eq]
  by_cases above : s.duty.ptoAbove = true
  · rw [if_pos above, if_pos above]
    rfl
  · rw [if_neg above, if_neg above]
    rfl

theorem meterOverspeed_unknown {s : State} (unknown : s.board.engineSpeed.age = .unknown) :
    s.meterOverspeed = { s with duty := { s.duty with overspeedCount := none } } := by
  refine if_pos ?_
  rw [unknown_false unknown]
  rfl

theorem meterOverspeed_slow {s : State} (known : s.board.engineSpeed.age ≠ .unknown)
    (slow : s.board.engineSpeed.value ≤ s.tune.engine.overspeed) : s.meterOverspeed = { s with duty := { s.duty with
      overspeedCount := none
      overspeedArmed := if s.board.engineSpeed.value < (s.tune.engine.overspeed : Int) - 100 then true else s.duty.overspeedArmed } } := by
  have armed : (s.duty.overspeedArmed || decide (s.board.engineSpeed.value < (s.tune.engine.overspeed : Int) - 100)) =
      if s.board.engineSpeed.value < (s.tune.engine.overspeed : Int) - 100 then true else s.duty.overspeedArmed := by
    split
    · simp [*]
    · simp [*]
  unfold State.meterOverspeed
  dsimp only
  rw [known_true known, if_neg (by decide), if_neg (by omega), armed]
  rfl

/-- Above the limit the count goes on as it stands (R98). -/
theorem meterOverspeed_fast {s : State} (known : s.board.engineSpeed.age ≠ .unknown)
    (fast : (s.tune.engine.overspeed : Int) < s.board.engineSpeed.value) : s.meterOverspeed =
      if s.duty.overspeedArmed then
        match s.duty.overspeedCount with
        | none => s.withDuty { s.duty with overspeedCount := some 0 }
        | some n =>
          if n < 9 then s.withDuty { s.duty with overspeedCount := some (n + 1) }
          else ((counted s .overspeed).withDuty { s.duty with overspeedCount := none, overspeedArmed := false }).setNotice .abuse
      else s := by
  unfold State.meterOverspeed
  dsimp only
  rw [known_true known, if_neg (by decide), if_pos fast, land_eq]
  rfl

end Sys2Proof.Proofs
end

section
/-! Slip energy and the engagement window (R100 to R104). -/
namespace Sys2Proof.Proofs
open Sys2Proof Sys2Proof.Machine

/-! ### Slip energy (R100, R101) -/

/-- The slip between engine and input shaft. -/
def slipSpeed (s : State) : Nat := (s.board.engineSpeed.value - s.board.inputSpeed.value).natAbs

/-- Both speeds of the slip are known. -/
abbrev slipMeasured (s : State) : Prop := s.board.engineSpeed.age ≠ .unknown ∧ s.board.inputSpeed.age ≠ .unknown

/-- Slip energy accrues in this quantum (R100). -/
abbrev slipAccrues (s : State) : Prop :=
  slipMeasured s ∧ s.tune.clutch.floor ≤ slipSpeed s
    ∧ (s.board.gear.age ≠ .unknown
      ∧ ((1 ≤ s.board.gear.value ∧ s.board.gear.value ≤ 12) ∨ s.board.gear.value = -1 ∨ s.board.gear.value = -2))
    ∧ s.board.engineTorque.age ≠ .unknown

/-- The work of the quantum on a remainder (R100). -/
def slipProduct (s : State) (r : Nat) : Nat := s.board.engineTorque.value.natAbs * s.tune.engine.reference * slipSpeed s + r

theorem slipNow_measured {s : State} (measured : slipMeasured s) : s.slipNow = some (slipSpeed s) := by
  unfold State.slipNow
  rw [known_true measured.1, known_true measured.2]
  rfl

theorem slipNow_unmeasured {s : State} (unmeasured : ¬ slipMeasured s) : s.slipNow = none := by
  refine if_neg fun both => unmeasured ?_
  rw [Bool.and_eq_true, known_iff, known_iff] at both
  exact both

theorem energyAccrues_iff (s : State) (slip : Nat) : s.energyAccrues slip = true ↔ s.tune.clutch.floor ≤ slip
    ∧ (s.board.gear.age ≠ .unknown
      ∧ ((1 ≤ s.board.gear.value ∧ s.board.gear.value ≤ 12) ∨ s.board.gear.value = -1 ∨ s.board.gear.value = -2))
    ∧ s.board.engineTorque.age ≠ .unknown := by
  unfold State.energyAccrues
  rw [Bool.and_eq_true, Bool.and_eq_true, decide_eq_true_eq, inGear_iff, known_iff, and_assoc]

theorem slip_rests {s : State} (rests : ¬ slipAccrues s) : s.meterSlip = s ∧ s.quantumJoules = 0 := by
  unfold State.meterSlip State.quantumJoules
  by_cases measured : slipMeasured s
  · have no : ¬ s.energyAccrues (slipSpeed s) = true := fun h => rests ⟨measured, (energyAccrues_iff s _).1 h⟩
    rw [slipNow_measured measured]
    exact ⟨if_neg no, if_neg no⟩
  · rw [slipNow_unmeasured measured]
    exact ⟨rfl, rfl⟩

theorem quantumJoules_accrues {s : State} (accrues : slipAccrues s) {r : Nat} (remainder : s.energyRemainder = r) :
    s.quantumJoules = slipProduct s r / 19099 := by
  unfold State.quantumJoules
  rw [slipNow_measured accrues.1]
  dsimp only
  rw [if_pos ((energyAccrues_iff s _).2 accrues.2)]
  unfold State.slipWork
  rw [remainder]
  rfl

theorem meterSlip_accrues {s : State} (accrues : slipAccrues s) {r : Nat} (remainder : s.energyRemainder = r) :
    s.meterSlip = if (findSlot s.slots .clutch 1).isSome then
        counted s (.slipEnergy (slipProduct s r / 19099) (slipProduct s r % 19099))
      else { counted s (.slipEnergy (slipProduct s r / 19099) (slipProduct s r % 19099)) with
        duty := { s.duty with spare := slipProduct s r % 19099 } } := by
  unfold State.meterSlip
  rw [slipNow_measured accrues.1]
  dsimp only
  rw [if_pos ((energyAccrues_iff s _).2 accrues.2), land_eq]
  unfold State.slipWork
  rw [remainder]
  rfl

theorem energyRemainder_slot {s : State} {i : Nat} {c : Component} {b : ClutchBody} (place : findSlot s.slots .clutch 1 = some i)
    (at_ : s.slotAt i = some c) (body : c.body = .clutch b) : s.energyRemainder = b.remainder := by
  unfold State.energyRemainder
  rw [place]
  simp only [Option.bind_some, at_, body]

theorem energyRemainder_spare {s : State} (none_ : findSlot s.slots .clutch 1 = none) : s.energyRemainder = s.duty.spare := by
  unfold State.energyRemainder
  rw [none_]
  rfl

/-! ### The engagement window (R102, R103) -/

/-- A clutch engagement is due (R102). -/
abbrev engages (s : State) : Prop :=
  s.duty.lastClutch = some true ∧ (s.board.clutch.age ≠ .unknown ∧ s.board.clutch.value = 0)
    ∧ s.board.gear.age ≠ .unknown ∧ -2 ≤ s.board.gear.value ∧ s.board.gear.value ≤ 12

theorem engagementDue_iff (s : State) : s.engagementDue = true ↔ engages s := by
  unfold State.engagementDue Board.clutchClosed engages
  rw [Bool.and_eq_true, Bool.and_eq_true, Bool.and_eq_true, decide_eq_true_eq, decide_eq_true_eq, known_iff, Bool.or_eq_true, inGear_iff,
    Bool.and_eq_true, known_iff, decide_eq_true_eq, and_assoc]
  refine and_congr_right fun _ => and_congr_right fun _ => ?_
  rw [← and_or_left]
  refine and_congr_right fun _ => ?_
  omega

/-- A body with an engagement counted. -/
def engagedBody : Body → Body
  | .clutch b => .clutch { b with engagements := min Config.eventCeiling (b.engagements + 1) }
  | b => b

theorem meterWindow_engages {s : State} (high : s.resetLow = false) (due : engages s) (joules : Nat) :
    s.meterWindow joules = { windowClosed (counted s .clutchEngagement) with
      duty := { s.duty with window := some ⟨joules, 0, 0⟩ } } := by
  unfold State.meterWindow
  rw [if_pos ((engagementDue_iff s).2 due), counted_eq]
  dsimp only
  rw [closeWindow_eq (s := counted s .clutchEngagement) high]
  rfl

/-- An open window after the quantum (R103). -/
def windowAdvanced (s : State) (w : Engagement) (joules : Nat) : Engagement :=
  ⟨min Config.energyCeiling (w.sum + joules), w.age + 1, quietAfter s.tune.clutch.floor w.quiet s.slipNow⟩

theorem quietAfter_eq (s : State) (quiet : Nat) : quietAfter s.tune.clutch.floor quiet s.slipNow =
    if slipMeasured s then (if slipSpeed s < s.tune.clutch.floor then quiet + 1 else 0) else quiet := by
  by_cases measured : slipMeasured s
  · rw [slipNow_measured measured, if_pos measured]
    rfl
  · rw [slipNow_unmeasured measured, if_neg measured]
    rfl

theorem meterWindow_advances {s : State} {w : Engagement} (open_ : s.duty.window = some w) (no : ¬ engages s) (joules : Nat) :
    s.meterWindow joules = if 5 ≤ (windowAdvanced s w joules).quiet ∨ 50 ≤ w.age + 1 then
        ({ s with duty := { s.duty with window := some (windowAdvanced s w joules) } } : State).closeWindow
      else { s with duty := { s.duty with window := some (windowAdvanced s w joules) } } := by
  unfold State.meterWindow
  rw [if_neg fun h => no ((engagementDue_iff s).1 h), open_]
  rfl

theorem meterWindow_shut {s : State} (shut : s.duty.window = none) (no : ¬ engages s) (joules : Nat) : s.meterWindow joules = s := by
  unfold State.meterWindow
  rw [if_neg fun h => no ((engagementDue_iff s).1 h), shut]

/-! ### The cells of a quantum (R93 to R95) -/

/-- The number of limits reached. -/
def reached (limits : List Int) (v : Int) : Nat := (limits.filter (fun l => decide (l ≤ v))).length

theorem bandOf_reached {v l1 l2 l3 : Int} (first : l1 < l2) (second : l2 < l3) : bandOf v l1 l2 l3 = reached [l1, l2, l3] v := by
  unfold bandOf reached
  by_cases one : v < l1
  · rw [if_pos one]
    simp [List.filter, show ¬ l1 ≤ v by omega, show ¬ l2 ≤ v by omega, show ¬ l3 ≤ v by omega]
  · by_cases two : v < l2
    · rw [if_neg one, if_pos two]
      simp [List.filter, show l1 ≤ v by omega, show ¬ l2 ≤ v by omega, show ¬ l3 ≤ v by omega]
    · by_cases three : v < l3
      · rw [if_neg one, if_neg two, if_pos three]
        simp [List.filter, show l1 ≤ v by omega, show l2 ≤ v by omega, show ¬ l3 ≤ v by omega]
      · rw [if_neg one, if_neg two, if_neg three]
        simp [List.filter, show l1 ≤ v by omega, show l2 ≤ v by omega, show l3 ≤ v by omega]

end Sys2Proof.Proofs
end

section
/-! The quantum expiry as a whole (R91), and a quantum in which nothing else is judged. -/
namespace Sys2Proof.Proofs
open Sys2Proof Sys2Proof.Machine

/-- CLUTCH as it is read at a quantum expiry (R91). -/
theorem readClutch_eq (s : State) : s.readClutch =
    if s.board.clutch.age = .unknown then none else some (decide (s.board.clutch.value = 1)) := by
  unfold State.readClutch
  by_cases unknown : s.board.clutch.age = .unknown
  · rw [unknown_false unknown, if_pos unknown]
    rfl
  · rw [known_true unknown, if_neg unknown]
    rfl

/-- What the start state meters at a quantum expiry (R90). -/
def quantumMetered (s : State) : State :=
  match s.monitor.state with
  | .running => s.meter
  | .cranking => s.land .crankTime
  | _ => s

theorem quantumMetered_running {s : State} (running : s.monitor.state = .running) : quantumMetered s = s.meter := by
  unfold quantumMetered
  rw [running]

theorem quantumMetered_cranking {s : State} (cranking : s.monitor.state = .cranking) : quantumMetered s = counted s .crankTime := by
  unfold quantumMetered
  rw [cranking]
  exact counted_eq s _

theorem quantumMetered_quiet {s : State}
    (quiet : s.monitor.state = .off ∨ s.monitor.state = .armed ∨ s.monitor.state = .catching) : quantumMetered s = s := by
  unfold quantumMetered
  rcases quiet with state | state | state <;> rw [state]

/-- A quantum expiry in RUN (R90, R91). -/
theorem exec_quantumExpiry {s : State} {ms : Nat} (on : s.powered = true) (run : s.supply.power = .run)
    (timer : s.duty.quantumTimer = .running ms) : exec .quantumExpiry s = .next { quantumMetered s with
      duty := { (quantumMetered s).duty with quantumTimer := .running 0, lastClutch := s.readClutch } } :=
  (act_on on _).trans (congrArg _ (if_pos ⟨by rw [timer]; rfl, run⟩))

/-! ### A quantum with nothing else to judge (R93 to R95) -/

theorem counted_slotAt (s : State) (inc : Increment) (i : Nat) : (counted s inc).slotAt i =
    (s.slotAt i).map (fun c => if findSlot s.slots inc.cls 1 = some i then { c with body := inc.onBody c.body } else c) :=
  slotGains_landed (f := inc.onBody) inc rfl (fun _ => rfl) i

theorem meterOverspeed_still {s : State} (known : s.board.engineSpeed.age ≠ .unknown)
    (slow : s.board.engineSpeed.value ≤ s.tune.engine.overspeed)
    (armed : (s.tune.engine.overspeed : Int) - 100 ≤ s.board.engineSpeed.value ∨ s.duty.overspeedArmed = true)
    (count : s.duty.overspeedCount = none) : s.meterOverspeed = s := by
  have same : (if s.board.engineSpeed.value < (s.tune.engine.overspeed : Int) - 100 then true else s.duty.overspeedArmed)
      = s.duty.overspeedArmed := by
    by_cases low : s.board.engineSpeed.value < (s.tune.engine.overspeed : Int) - 100
    · rw [if_pos low, armed.resolve_left (by omega)]
    · exact if_neg low
  rw [meterOverspeed_slow known slow, same, ← count]

/-- The part after the quantum's run and gear time alone. -/
def quantumRun (s : State) : State := counted (counted s (.engineQuantum s.loadCell s.idling)) (.gearTime s.gearCell)

theorem meter_quiet {s : State} (known : s.board.engineSpeed.age ≠ .unknown)
    (slow : s.board.engineSpeed.value ≤ s.tune.engine.overspeed)
    (armed : (s.tune.engine.overspeed : Int) - 100 ≤ s.board.engineSpeed.value ∨ s.duty.overspeedArmed = true)
    (count : s.duty.overspeedCount = none) (pto : s.board.ptoSpeed.age = .unknown) (input : s.board.inputSpeed.age = .unknown)
    (last : s.duty.lastClutch ≠ some true) (shut : s.duty.window = none) : s.meter = quantumRun s := by
  have ran : (s.land (.engineQuantum s.loadCell s.idling)).land (.gearTime s.gearCell) = quantumRun s := by
    rw [counted_eq, counted_eq]
    rfl
  have ptoStill : (quantumRun s).meterPto = quantumRun s := meterPto_unknown (by exact pto)
  have speedStill : (quantumRun s).meterOverspeed = quantumRun s := meterOverspeed_still (by exact known) (by exact slow) armed count
  have slipStill : (quantumRun s).meterSlip = quantumRun s := (slip_rests (s := quantumRun s) fun accrues => accrues.1.2 input).1
  unfold State.meter
  rw [ran]
  dsimp only
  rw [ptoStill, speedStill, slipStill]
  exact meterWindow_shut (s := quantumRun s) shut (fun due => last due.1) _

theorem loadCell_eq {s : State} (legal : s.tune.legal) (known : s.board.engineSpeed.age ≠ .unknown) : s.loadCell =
    if s.board.engineTorque.age = .unknown then 16
    else 4 * reached [(s.tune.engine.s1 : Int), s.tune.engine.s2, s.tune.engine.s3] s.board.engineSpeed.value
      + reached [s.tune.engine.t1, s.tune.engine.t2, s.tune.engine.t3] s.board.engineTorque.value := by
  obtain ⟨-, ⟨s12, s23, -, -, t12, t23, -⟩, -⟩ := legal
  unfold State.loadCell
  rw [known_true known]
  by_cases torque : s.board.engineTorque.age = .unknown
  · rw [unknown_false torque, if_pos torque]
    rfl
  · rw [known_true torque, if_neg torque, ← bandOf_reached (by omega) (by omega), ← bandOf_reached t12 t23]
    rfl

theorem idling_eq {s : State} (known : s.board.engineSpeed.age ≠ .unknown) : s.idling =
    decide (s.board.engineSpeed.value ≤ (s.tune.engine.idle : Int)
      ∧ (s.board.outputSpeed.age = .unknown ∨ s.board.outputSpeed.value = 0)) := by
  unfold State.idling
  rw [known_true known, Bool.true_and, Bool.decide_and, Bool.decide_or]
  congr 2
  by_cases unknown : s.board.outputSpeed.age = .unknown
  · rw [unknown_false unknown, decide_eq_true unknown]
    rfl
  · rw [known_true unknown, decide_eq_false unknown]
    rfl

theorem gearCell_eq (s : State) : s.gearCell =
    if s.board.gear.age = .unknown then 15 else if s.board.gear.value = 0 then 14
    else if s.board.gear.value = -1 then 12 else if s.board.gear.value = -2 then 13
    else if 1 ≤ s.board.gear.value ∧ s.board.gear.value ≤ 12 then s.board.gear.value.toNat - 1 else 15 := by
  unfold State.gearCell
  by_cases unknown : s.board.gear.age = .unknown
  · rw [unknown_false unknown, if_pos unknown]
    rfl
  · rw [known_true unknown, if_neg unknown]
    rfl

/-- The quantum's run, idle and gear time, slot by slot. -/
theorem quantumRun_slotAt (s : State) (i : Nat) : (quantumRun s).slotAt i = (s.slotAt i).map (fun c =>
    if findSlot s.slots .gearbox 1 = some i then
      { c with
        body := (Increment.gearTime s.gearCell).onBody
          (if findSlot s.slots .engine 1 = some i then (Increment.engineQuantum s.loadCell s.idling).onBody c.body else c.body) }
    else if findSlot s.slots .engine 1 = some i then
      { c with body := (Increment.engineQuantum s.loadCell s.idling).onBody c.body }
    else c) := by
  unfold quantumRun
  rw [counted_slotAt, counted_slotAt, Option.map_map, counted_findSlot]
  congr 1
  funext c
  by_cases gearbox : findSlot s.slots .gearbox 1 = some i <;> by_cases engine : findSlot s.slots .engine 1 = some i <;>
    simp [gearbox, engine, Increment.cls]

theorem quantumRun_register (s : State) : registerGains s (quantumRun s) (fun c => { c with
    run := bumpTime c.run, idle := if s.idling then bumpTime c.idle else c.idle }) := by
  refine registerGains_mapCounts ?_
  exact mapCounts_id _

end Sys2Proof.Proofs
end

section
/-! The quantum expiry settled: each step of a metered quantum by its own table. -/
namespace Sys2Proof.Proofs
open Sys2Proof Sys2Proof.Machine

/-! ### Each step's gains -/

/-- A PTO body after a quantum above the PTO's limit (R97). -/
def ptoBody (above : Bool) : Body → Body
  | .pto b => .pto { b with
      time := min Config.timeCeiling (b.time + 1)
      engagements := if above then b.engagements else min Config.eventCeiling (b.engagements + 1) }
  | b => b

theorem ptoTurning_gains {s t : State} (slots : t.slots = (counted (if s.duty.ptoAbove then s else counted s .ptoEngagement) .ptoTime).slots)
    (hires : t.hires = (counted (if s.duty.ptoAbove then s else counted s .ptoEngagement) .ptoTime).hires) :
    slotGains s t .pto (ptoBody s.duty.ptoAbove)
      ∧ registerGains s t (fun c => { c with pto := min Config.timeCeiling (c.pto + 1) }) := by
  cases above : s.duty.ptoAbove with
  | true =>
    rw [above, if_pos rfl] at slots hires
    refine ⟨slotGains_landed .ptoTime slots fun b => ?_, registerGains_mapCounts hires⟩
    cases b <;> rfl
  | false =>
    rw [above, if_neg nofun] at slots hires
    refine ⟨?_, registerGains_mapCounts (hires.trans ?_)⟩
    · refine slotGains_congr (slotGains_twice (one := .ptoEngagement) (two := .ptoTime) rfl rfl slots (fun _ => rfl) fun _ => rfl)
        fun i c place at_ => ?_
      cases c.body <;> rfl
    · exact congrArg (fun h => HireRegister.mapCounts h fun c => { c with pto := bumpTime c.pto }) (mapCounts_id s.hires)

/-- A CLUTCH body after an accrual (R9, R100). -/
def accruedBody (b : ClutchBody) (joules remainder : Nat) : Body :=
  .clutch (if b.energy < Config.energyCeiling then
    { b with energy := min Config.energyCeiling (b.energy + joules), remainder := remainder } else b)

theorem slipEnergy_gains {s t : State} {i joules remainder : Nat} {c : Component} {b : ClutchBody}
    (place : findSlot s.slots .clutch 1 = some i) (at_ : s.slotAt i = some c) (body : c.body = .clutch b)
    (slots : t.slots = (counted s (.slipEnergy joules remainder)).slots) :
    slotGains s t .clutch (fun _ => accruedBody b joules remainder) := by
  refine slotGains_congr (slotGains_landed (.slipEnergy joules remainder) slots fun _ => rfl) fun j d there found => ?_
  obtain rfl : i = j := Option.some.inj (place.symm.trans there)
  obtain rfl : c = d := Option.some.inj (at_.symm.trans found)
  rw [body]
  rfl

/-- A CLUTCH body after a quantum's engagement and a window's closing (R102, R104). -/
def judgedBody (engaged : Nat) (hot : Prop) [Decidable hot] : Body → Body
  | .clutch b => .clutch { b with
      engagements := if engaged = 1 then min Config.eventCeiling (b.engagements + 1) else b.engagements
      hotSlips := if hot then min Config.eventCeiling (b.hotSlips + 1) else b.hotSlips }
  | b => b

/-- The counts after a quantum's engagement and a window's closing. -/
def judgedCounts (engaged : Nat) (hot : Prop) [Decidable hot] (c : Counts) : Counts :=
  { c with
    engagements := if engaged = 1 then min Config.eventCeiling (c.engagements + 1) else c.engagements
    hotSlips := if hot then min Config.eventCeiling (c.hotSlips + 1) else c.hotSlips }

/-- The window closed with nothing engaged. -/
theorem closed_gains {s t : State} (slots : t.slots = (windowClosed s).slots) (hires : t.hires = (windowClosed s).hires) :
    slotGains s t .clutch (judgedBody 0 (windowHot s)) ∧ registerGains s t (judgedCounts 0 (windowHot s)) := by
  obtain ⟨gains, counts⟩ := windowClosed_gains slots hires
  refine ⟨slotGains_congr gains fun i c place at_ => ?_, counts⟩
  cases c.body <;> rfl

/-- The window closed at an engagement. -/
theorem engaged_gains {s t : State} (slots : t.slots = (windowClosed (counted s .clutchEngagement)).slots)
    (hires : t.hires = (windowClosed (counted s .clutchEngagement)).hires) :
    slotGains s t .clutch (judgedBody 1 (windowHot s)) ∧ registerGains s t (judgedCounts 1 (windowHot s)) := by
  obtain ⟨gains, counts⟩ := windowClosed_gains slots hires
  have engaged : slotGains s (counted s .clutchEngagement) .clutch engagedBody :=
    slotGains_landed .clutchEngagement rfl fun b => by cases b <;> rfl
  have register : registerGains s (counted s .clutchEngagement)
      (fun c => { c with engagements := min Config.eventCeiling (c.engagements + 1) }) := registerGains_mapCounts rfl
  have closed : registerGains (counted s .clutchEngagement) t (fun c => { c with
      hotSlips := if windowHot s then min Config.eventCeiling (c.hotSlips + 1) else c.hotSlips }) := counts
  refine ⟨slotGains_congr (slotGains_trans engaged gains (counted_findSlot s _ _)) fun i c place at_ => ?_,
    (registerGains_trans register closed :)⟩
  cases c.body <;> rfl

theorem windowClosed_frame (s : State) : windowClosed s = { s with
    slots := (windowClosed s).slots, hires := (windowClosed s).hires, duty := { s.duty with window := none }
    port := { s.port with notice := if windowHot s then s.port.notice ||| 0x100 else s.port.notice } } := by
  unfold windowClosed
  by_cases hot : windowHot s
  · rw [if_pos hot]
    rfl
  · rw [if_neg hot]

/-! ### The quantum as a whole -/

/-- Settles O51: the expiry by its start state, and each step by its table. -/
theorem quantumIsMeteredByTheStartState : Obligations.QuantumIsMeteredByTheStartState := by
  unfold Obligations.QuantumIsMeteredByTheStartState
  intro event quantum read
  refine ⟨fun s ms on run timer => ?_, fun s ms on run timer running legal known slow armed count pto input last shut => ?_,
    fun s => ?_, fun s live => ?_, fun s => ?_, fun s joules live => ?_, fun s => ?_, fun s live => ?_⟩
  · intro duty
    have step := exec_quantumExpiry on run timer
    rw [readClutch_eq] at step
    refine ⟨fun quiet => ?_, fun cranking => ?_, fun running => ?_⟩
    · rw [quantumMetered_quiet quiet] at step
      exact step
    · rw [quantumMetered_cranking cranking] at step
      exact ⟨_, step, rfl, slotGains_landed .crankTime rfl fun b => by cases b <;> rfl, registerGains_mapCounts rfl⟩
    · rw [quantumMetered_running running] at step
      exact step
  · intro reached_ e cell idle gearCell
    have step := exec_quantumExpiry on run timer
    rw [quantumMetered_running running, meter_quiet known slow armed count pto input last shut, readClutch_eq] at step
    have cellEq : s.loadCell = cell := loadCell_eq legal known
    have idleEq : s.idling = idle := idling_eq known
    have gearEq : s.gearCell = gearCell := gearCell_eq s
    have slots := quantumRun_slotAt s
    have register := quantumRun_register s
    rw [cellEq, idleEq, gearEq] at slots
    rw [idleEq] at register
    refine ⟨_, step, rfl, register, fun i engine gearbox => ?_, fun i c b place at_ body => ?_, fun i c b place at_ body => ?_⟩
    · refine (slots i).trans ?_
      simp [engine, gearbox]
    · refine (slots i).trans ?_
      by_cases engine : findSlot s.slots .engine 1 = some i
      · simp [place, engine, at_, body]
        rfl
      · simp [place, engine, at_, body]
        rfl
    · refine (slots i).trans ?_
      by_cases gearbox : findSlot s.slots .gearbox 1 = some i
      · simp [place, gearbox, at_, body]
        rfl
      · simp [place, gearbox, at_, body]
        rfl
  · intro pto
    refine ⟨meterPto_unknown, meterPto_slow, fun known turning => ⟨_, meterPto_turning known turning, ?_, ?_⟩⟩
    · cases s.duty.ptoAbove <;> rfl
    · obtain ⟨gains, register⟩ := ptoTurning_gains (s := s) (t := { counted (if s.duty.ptoAbove then s else counted s .ptoEngagement) .ptoTime with
        duty := { s.duty with ptoAbove := true } }) rfl rfl
      exact ⟨slotGains_congr gains fun i c place at_ => by cases c.body <;> rfl, register⟩
  · intro speed limit
    refine ⟨meterOverspeed_unknown, meterOverspeed_slow, fun known fast => ?_⟩
    have step := meterOverspeed_fast known fast
    refine ⟨fun off => ?_, fun on none_ => ?_, fun n on some_ few => ?_, fun on some_ => ?_⟩
    · rw [step, off]
      rfl
    · rw [step, if_pos on, none_]
      rfl
    · rw [step, if_pos on, some_]
      exact if_pos few
    · rw [if_pos on, some_] at step
      refine ⟨_, step.trans ((if_neg (lt_irrefl 9)).trans (State.setNotice_live _ _ ?_)), rfl,
        slotGains_landed .overspeed rfl fun b => by cases b <;> rfl, registerGains_mapCounts rfl⟩
      exact live.2
  · intro slip measured geared accrues p
    refine ⟨slip_rests, fun i c b due place at_ body => ?_, fun due none_ => ?_⟩
    · have step := meterSlip_accrues due (energyRemainder_slot place at_ body)
      rw [place] at step
      refine ⟨quantumJoules_accrues due (energyRemainder_slot place at_ body), _, step, rfl,
        slipEnergy_gains place at_ body rfl, registerGains_mapCounts rfl⟩
    · have step := meterSlip_accrues due (energyRemainder_spare none_)
      rw [none_] at step
      have still : (counted s (.slipEnergy (slipProduct s s.duty.spare / 19099) (slipProduct s s.duty.spare % 19099))).slots = s.slots := by
        show landed s.slots _ = s.slots
        unfold landed
        rw [show Increment.cls _ = .clutch from rfl, none_]
      refine ⟨quantumJoules_accrues due (energyRemainder_spare none_), _, step, ?_, registerGains_mapCounts rfl⟩
      exact congrArg (fun slots => ({ s with slots := slots, hires := _, duty := _ } : State)) still
  · intro slip measured due judged
    have high : s.resetLow = false := live.2
    have atEngagement : engages s → judged (windowSum s) 1 (some ⟨joules, 0, 0⟩) := fun engages_ => by
      obtain ⟨gains, register⟩ := engaged_gains (s := s)
        (t := { windowClosed (counted s .clutchEngagement) with duty := { s.duty with window := some ⟨joules, 0, 0⟩ } }) rfl rfl
      refine ⟨_, meterWindow_engages high engages_ joules, ?_, slotGains_congr gains fun i c place at_ => by cases c.body <;> rfl, register⟩
      exact congrArg (fun t : State => { t with duty := { s.duty with window := some ⟨joules, 0, 0⟩ } }) (windowClosed_frame _)
    refine ⟨fun shut no => meterWindow_shut shut no joules, fun shut engages_ => ?_, fun w open_ engages_ => ?_, fun w open_ no => ?_⟩
    · have sum : windowSum s = 0 := by
        unfold windowSum
        rw [shut]
      exact sum ▸ atEngagement engages_
    · have sum : windowSum s = w.sum := by
        unfold windowSum
        rw [open_]
      exact sum ▸ atEngagement engages_
    · intro sum quiet
      have step := meterWindow_advances open_ no joules
      have quietEq : (windowAdvanced s w joules).quiet = quiet := quietAfter_eq s w.quiet
      have next : windowAdvanced s w joules = ⟨sum, w.age + 1, quiet⟩ := congrArg (Engagement.mk sum (w.age + 1)) quietEq
      rw [next] at step
      refine ⟨fun loud young => step.trans (if_neg fun ends => ?_), fun ends => ?_⟩
      · exact ends.elim (Nat.not_le.2 loud) (Nat.not_le.2 young)
      · obtain ⟨gains, register⟩ := closed_gains
          (s := { s with duty := { s.duty with window := some ⟨sum, w.age + 1, quiet⟩ } }) (t := windowClosed _) rfl rfl
        refine ⟨_, step.trans ((if_pos ends).trans (closeWindow_eq (by exact high))), windowClosed_frame _,
          slotGains_congr gains fun i c place at_ => ?_, register⟩
        cases c.body <;> rfl
  · intro v geared
    refine ⟨fun still => dutyGear_still ?_, fun run geared_ other none_ => ?_, fun old run geared_ old_ differ running => ?_⟩
    · exact still.imp_left fun idle => Bool.eq_false_iff.2 fun on => idle ((inGear_iff _).1 on)
    · have step := dutyGear_taken run ((inGear_iff _).2 geared_) other
      rw [if_neg fun h => none_.elim h.1 fun not_ => not_ h.2] at step
      exact step
    · have step := dutyGear_taken run ((inGear_iff _).2 geared_) fun same => differ (Option.some.inj (old_.symm.trans same))
      rw [if_pos ⟨by rw [old_]; nofun, running⟩] at step
      exact ⟨_, step, rfl, slotGains_landed .shift rfl fun b => by cases b <;> rfl, registerGains_mapCounts rfl⟩
  · intro sum hot
    have step : s.dutyLeavesRunning = { windowClosed s with
        duty := { (windowClosed s).duty with ptoAbove := false, overspeedCount := none } } :=
      congrArg (fun t : State => t.withDuty { t.duty with ptoAbove := false, overspeedCount := none }) (closeWindow_eq live.2)
    obtain ⟨gains, register⟩ := windowClosed_gains (s := s) (t := { windowClosed s with
      duty := { (windowClosed s).duty with ptoAbove := false, overspeedCount := none } }) rfl rfl
    exact ⟨_, step, congrArg (fun t : State => { t with duty := { t.duty with ptoAbove := false, overspeedCount := none } })
      (windowClosed_frame s), slotGains_congr gains fun i c place at_ => by cases c.body <;> rfl, register⟩

end Sys2Proof.Proofs
end

section
/-! How the sections of TUNE are read (R160, 12.9): a field kept in its range, and counted when that changes it. -/
namespace Sys2Proof.Proofs
open Sys2Proof Sys2Proof.Machine

/-! ### A field kept in its range -/

/-- A field as it is kept. -/
def fieldKept (lo hi n : Nat) : Nat := if n < lo then lo else if hi < n then hi else n

/-- Whether that changes it, as a count. -/
def fieldChanges (lo hi n : Nat) : Nat := if n < lo ∨ hi < n then 1 else 0

/-- A signed field as it is kept. -/
def fieldKeptInt (lo hi v : Int) : Int := if v < lo then lo else if hi < v then hi else v

/-- Whether that changes it, as a count. -/
def fieldChangesInt (lo hi v : Int) : Nat := if v < lo ∨ hi < v then 1 else 0

theorem clampNat_kept {lo hi : Nat} (range : lo ≤ hi) (n : Nat) : clampNat lo hi n = fieldKept lo hi n := by
  unfold clampNat fieldKept
  split
  · omega
  · split <;> omega

theorem clampInt_kept {lo hi : Int} (range : lo ≤ hi) (v : Int) : clampInt lo hi v = fieldKeptInt lo hi v := by
  unfold clampInt fieldKeptInt
  split
  · omega
  · split <;> omega

theorem fieldKept_eq_iff (lo hi n : Nat) : fieldKept lo hi n = n ↔ ¬ (n < lo ∨ hi < n) := by
  unfold fieldKept
  split
  · omega
  · split <;> omega

theorem fieldKeptInt_eq_iff (lo hi v : Int) : fieldKeptInt lo hi v = v ↔ ¬ (v < lo ∨ hi < v) := by
  unfold fieldKeptInt
  split
  · omega
  · split <;> omega

/-! ### The number of fields changed -/

/-- One field, changed or not. -/
def fieldMoves (raw kept : Int) : Nat := if raw ≠ kept then 1 else 0

theorem countChanged_cons (raw kept : Int) (raws kepts : List Int) :
    countChanged (raw :: raws) (kept :: kepts) = fieldMoves raw kept + countChanged raws kepts := by
  unfold countChanged fieldMoves
  rw [List.zip_cons_cons]
  by_cases same : raw = kept
  · simp [same]
  · simp [same]
    omega

theorem countChanged_nil : countChanged [] [] = 0 := rfl

theorem countChanged_append {raws kepts raws' kepts' : List Int} (length : raws.length = kepts.length) :
    countChanged (raws ++ raws') (kepts ++ kepts') = countChanged raws kepts + countChanged raws' kepts' := by
  unfold countChanged
  rw [List.zip_append length, List.filter_append, List.length_append]

theorem fieldMoves_kept (lo hi n : Nat) : fieldMoves n (fieldKept lo hi n) = fieldChanges lo hi n := by
  have moved : ((n : Int) ≠ (fieldKept lo hi n : Int)) ↔ (n < lo ∨ hi < n) := by
    rw [ne_eq, Int.ofNat_inj, eq_comm, fieldKept_eq_iff, not_not]
  exact if_congr moved rfl rfl

theorem fieldMoves_keptInt (lo hi v : Int) :
    fieldMoves v (fieldKeptInt lo hi v) = fieldChangesInt lo hi v := by
  have moved : (v ≠ fieldKeptInt lo hi v) ↔ (v < lo ∨ hi < v) := by
    rw [ne_eq, eq_comm, fieldKeptInt_eq_iff, not_not]
  exact if_congr moved rfl rfl

theorem fieldMoves_same (v : Int) : fieldMoves v v = 0 := if_neg (not_not_intro rfl)

/-! ### The ratios -/

/-- The fields changed of two lists given place by place. -/
theorem countChanged_range (raw kept : Nat → Int) (n : Nat) :
    countChanged ((List.range n).map raw) ((List.range n).map kept) = ((List.range n).map fun i => fieldMoves (raw i) (kept i)).sum := by
  induction n with
  | zero => rfl
  | succ n ih =>
    rw [List.range_succ, List.map_append, List.map_append, countChanged_append (by rw [List.length_map, List.length_map]), ih,
      List.map_append, List.sum_append]
    congr 1
    exact countChanged_cons (raw n) (kept n) [] []

/-- Only the places below the count add. -/
theorem sum_range_below (moves : Nat → Nat) {count n : Nat} (within_ : count ≤ n) :
    ((List.range n).map fun i => if i < count then moves i else 0).sum = ((List.range count).map moves).sum := by
  induction n, within_ using Nat.le_induction with
  | base =>
    congr 1
    refine List.map_congr_left fun i below => if_pos (List.mem_range.1 below)
  | succ n above ih =>
    rw [List.range_succ, List.map_append, List.sum_append, ih]
    simp [Nat.not_lt.2 above]

/-- A ratio within the count is kept in its range, one beyond it as written (R160). -/
def ratioKept (count : Nat) (word : Nat → Nat) (i : Nat) : Nat := if i < count then fieldKept 64 2047 (word i) else word i

theorem clampRatios_range (count n : Nat) (word : Nat → Nat) :
    clampRatios count ((List.range n).map word) = (List.range n).map (ratioKept count word) := by
  unfold clampRatios
  refine List.ext_getElem (by simp) fun i h h' => ?_
  simp only [List.getElem_mapIdx, List.getElem_map, List.getElem_range]
  unfold ratioKept
  rw [clampNat_kept (by decide)]

theorem countChanged_ratios {count n : Nat} (within_ : count ≤ n) (word : Nat → Nat) :
    countChanged (((List.range n).map word).map Int.ofNat) (((List.range n).map (ratioKept count word)).map Int.ofNat)
      = ((List.range count).map fun i => fieldChanges 64 2047 (word i)).sum := by
  rw [List.map_map, List.map_map, countChanged_range, ← sum_range_below _ within_]
  congr 1
  refine List.map_congr_left fun i _ => ?_
  show fieldMoves (word i) (ratioKept count word i : Nat) = _
  unfold ratioKept
  by_cases below : i < count
  · rw [if_pos below, if_pos below, fieldMoves_kept]
  · rw [if_neg below, if_neg below, fieldMoves_same]

theorem strictlyDecreasing_iff (l : List Nat) :
    strictlyDecreasing l = true ↔ ∀ i, i + 1 < l.length → l.getD (i + 1) 0 < l.getD i 0 := by
  induction l with
  | nil => exact iff_of_true rfl fun i h => absurd h (Nat.not_lt_zero _)
  | cons p l ih =>
    cases l with
    | nil => exact iff_of_true rfl fun i h => absurd h (by simp)
    | cons q rest =>
      have step : strictlyDecreasing (p :: q :: rest) = (decide (q < p) && strictlyDecreasing (q :: rest)) := rfl
      rw [step, Bool.and_eq_true, decide_eq_true_eq, ih]
      constructor
      · rintro ⟨first, later⟩ i h
        cases i with
        | zero => exact first
        | succ i => exact later i (Nat.lt_of_succ_lt_succ h)
      · exact fun all => ⟨all 0 (by simp), fun i h => all (i + 1) (Nat.succ_lt_succ h)⟩

/-- The first ratios of a list given place by place fall strictly. -/
theorem strictlyDecreasing_range (word : Nat → Nat) (count n : Nat) :
    strictlyDecreasing (((List.range n).map word).take count) = true ↔ ∀ i, i + 1 < count → i + 1 < n → word (i + 1) < word i := by
  rw [strictlyDecreasing_iff]
  have place : ∀ i, i < count → i < n → (((List.range n).map word).take count).getD i 0 = word i := by
    intro i below within_
    simp [below, within_, List.getD_eq_getElem?_getD]
  refine forall_congr' fun i => ?_
  rw [List.length_take, List.length_map, List.length_range, Nat.lt_min, and_imp]
  refine forall_congr' fun below => forall_congr' fun within_ => ?_
  rw [place i (by omega) (by omega), place (i + 1) below within_]

end Sys2Proof.Proofs
end

section
/-! The nine sections of TUNE as they are read (R160, 12.9). -/
namespace Sys2Proof.Proofs
open Sys2Proof Sys2Proof.Machine

/-- A section read under a structural check, and refused without it. -/
theorem read_if {α : Type} {check : Bool} {sound : Prop} (holds : check = true ↔ sound) {value expected : α} (same : value = expected) :
    (sound → (if check then some value else none) = some expected) ∧ (¬ sound → (if check then some value else none) = none) :=
  ⟨fun h => (if_pos (holds.2 h)).trans (congrArg some same), fun h => if_neg fun c => h (holds.1 c)⟩

theorem sectionRead_supply (old : TuneSet) (m : Memory) (a : Nat) :
    let byte (i : Nat) : Nat := (memGet m (a + i)).toNat
    let sound : Prop := (byte 4 = 12 ∨ byte 4 = 24) ∧ (byte 5 = 0 ∨ byte 5 = 1)
    (sound → readSection old m a .supply =
        some ({ old with supply := ⟨if byte 4 = 24 then .v24 else .v12, if byte 5 = 1 then .dip else .line⟩ }, 0))
      ∧ (¬ sound → readSection old m a .supply = none) := by
  intro byte sound
  unfold readSection readSupplyTune
  exact ⟨fun h => by rw [if_pos h]; rfl, fun h => by rw [if_neg h]; rfl⟩

/-- START as it is kept (R72). -/
def startKept (m : Memory) (a : Nat) : StartTune :=
  let word (i : Nat) : Nat := memLe m 2 (a + i)
  { run := fieldKept 300 1200 (word 4), stop := fieldKept 100 600 (word 6), longCrank := fieldKept 3 30 (word 8)
    catchTime := fieldKept 500 5000 (word 10), hotWindow := fieldKept 10 600 (word 12)
    coldLimit := fieldKeptInt (-40) 60 (signed16 (word 14))
    clutchWired := decide ((memGet m (a + 16)).toNat % 2 = 1)
    reverseWired := decide ((memGet m (a + 16)).toNat / 2 % 2 = 1) }

theorem getLsbD_zero (b : BitVec 8) : b.getLsbD 0 = decide (b.toNat % 2 = 1) := by
  simp [BitVec.getLsbD, Nat.testBit_eq_decide_div_mod_eq]

theorem getLsbD_one (b : BitVec 8) : b.getLsbD 1 = decide (b.toNat / 2 % 2 = 1) := by
  simp [BitVec.getLsbD, Nat.testBit_eq_decide_div_mod_eq]

theorem readStartTune_clamp (m : Memory) (a : Nat) : (readStartTune m a).clamp = startKept m a := by
  simp (disch := decide) only [StartTune.clamp, readStartTune, clampNat_kept, clampInt_kept, getLsbD_zero, getLsbD_one]
  rfl

theorem startTune_changed (m : Memory) (a : Nat) :
    countChanged (readStartTune m a).fields (startKept m a).fields =
      fieldChanges 300 1200 (memLe m 2 (a + 4)) + fieldChanges 100 600 (memLe m 2 (a + 6)) + fieldChanges 3 30 (memLe m 2 (a + 8))
        + fieldChanges 500 5000 (memLe m 2 (a + 10)) + fieldChanges 10 600 (memLe m 2 (a + 12))
        + fieldChangesInt (-40) 60 (signed16 (memLe m 2 (a + 14))) := by
  simp only [StartTune.fields, readStartTune, startKept, countChanged_cons, countChanged_nil, fieldMoves_kept, fieldMoves_keptInt]
  omega

theorem sectionRead_start (old : TuneSet) (m : Memory) (a : Nat) :
    (memLe m 2 (a + 6) < memLe m 2 (a + 4) ∧ (startKept m a).stop < (startKept m a).run →
      readSection old m a .start = some ({ old with start := startKept m a },
        fieldChanges 300 1200 (memLe m 2 (a + 4)) + fieldChanges 100 600 (memLe m 2 (a + 6)) + fieldChanges 3 30 (memLe m 2 (a + 8))
          + fieldChanges 500 5000 (memLe m 2 (a + 10)) + fieldChanges 10 600 (memLe m 2 (a + 12))
          + fieldChangesInt (-40) 60 (signed16 (memLe m 2 (a + 14)))))
      ∧ (¬ (memLe m 2 (a + 6) < memLe m 2 (a + 4) ∧ (startKept m a).stop < (startKept m a).run) → readSection old m a .start = none) := by
  unfold readSection
  dsimp only
  rw [readStartTune_clamp, startTune_changed]
  refine read_if ?_ rfl
  simp only [StartTune.sound, Bool.and_eq_true, decide_eq_true_eq]
  rfl

/-- ENGINE as it is kept (R92). -/
def engineKept (m : Memory) (a : Nat) : EngineTune :=
  let word (i : Nat) : Nat := memLe m 2 (a + i)
  { s1 := fieldKept 0 8000 (word 4), s2 := fieldKept 0 8000 (word 6), s3 := fieldKept 0 8000 (word 8)
    t1 := fieldKeptInt (-250) 250 (signed16 (word 10)), t2 := fieldKeptInt (-250) 250 (signed16 (word 12))
    t3 := fieldKeptInt (-250) 250 (signed16 (word 14))
    idle := fieldKept 300 1500 (word 16), overspeed := fieldKept 1000 8000 (word 18), reference := fieldKept 100 5000 (word 20) }

theorem readEngineTune_clamp (m : Memory) (a : Nat) : (readEngineTune m a).clamp = engineKept m a := by
  simp (disch := decide) only [EngineTune.clamp, readEngineTune, clampNat_kept, clampInt_kept]
  rfl

/-- The fields of ENGINE that are changed, as a count. -/
def engineChanges (m : Memory) (a : Nat) : Nat :=
  let word (i : Nat) : Nat := memLe m 2 (a + i)
  fieldChanges 0 8000 (word 4) + fieldChanges 0 8000 (word 6) + fieldChanges 0 8000 (word 8)
    + fieldChangesInt (-250) 250 (signed16 (word 10)) + fieldChangesInt (-250) 250 (signed16 (word 12))
    + fieldChangesInt (-250) 250 (signed16 (word 14))
    + fieldChanges 300 1500 (word 16) + fieldChanges 1000 8000 (word 18) + fieldChanges 100 5000 (word 20)

theorem engineTune_changed (m : Memory) (a : Nat) :
    countChanged (readEngineTune m a).fields (engineKept m a).fields = engineChanges m a := by
  simp only [EngineTune.fields, readEngineTune, engineKept, countChanged_cons, countChanged_nil, fieldMoves_kept, fieldMoves_keptInt,
    engineChanges]
  omega

/-- Both triples of an ENGINE section rise strictly. -/
abbrev EngineTune.Rises (t : EngineTune) : Prop := t.s1 < t.s2 ∧ t.s2 < t.s3 ∧ t.t1 < t.t2 ∧ t.t2 < t.t3

theorem sectionRead_engine (old : TuneSet) (m : Memory) (a : Nat) :
    (EngineTune.Rises (readEngineTune m a) ∧ EngineTune.Rises (engineKept m a) →
      readSection old m a .engine = some ({ old with engine := engineKept m a }, engineChanges m a))
      ∧ (¬ (EngineTune.Rises (readEngineTune m a) ∧ EngineTune.Rises (engineKept m a)) → readSection old m a .engine = none) := by
  unfold readSection
  dsimp only
  rw [readEngineTune_clamp, engineTune_changed]
  refine read_if ?_ rfl
  simp only [EngineTune.sound, Bool.and_eq_true, decide_eq_true_eq]

theorem sectionRead_clutch (old : TuneSet) (m : Memory) (a : Nat) : readSection old m a .clutch =
    some ({ old with clutch := ⟨fieldKept 10 200 (memLe m 2 (a + 4)), fieldKept 1 2000 (memLe m 2 (a + 6))⟩ },
      fieldChanges 10 200 (memLe m 2 (a + 4)) + fieldChanges 1 2000 (memLe m 2 (a + 6))) := by
  simp (disch := decide) only [readSection, readClutchTune, ClutchTune.clamp, clampNat_kept, countChanged_cons, countChanged_nil,
    fieldMoves_kept, Nat.add_zero]

theorem sectionRead_journal (old : TuneSet) (m : Memory) (a : Nat) : readSection old m a .journal =
    some ({ old with period := fieldKept 60 3600 (memLe m 2 (a + 4)) }, fieldChanges 60 3600 (memLe m 2 (a + 4))) := by
  simp (disch := decide) only [readSection, clampNat_kept, countChanged_cons, countChanged_nil, fieldMoves_kept, Nat.add_zero]

theorem sectionRead_axle (old : TuneSet) (m : Memory) (a : Nat) : readSection old m a .axle =
    some ({ old with axle :=
        { gate := fieldKept 1 64 (memGet m (a + 4)).toNat, width := fieldKept 1 256 (memLe m 2 (a + 6)), weights := readWords m 16 (a + 8) } },
      fieldChanges 1 64 (memGet m (a + 4)).toNat + fieldChanges 1 256 (memLe m 2 (a + 6))) := by
  simp (disch := decide) only [readSection, readAxleTune, CycleTune.clamp, CycleTune.fields, clampNat_kept, countChanged_cons,
    countChanged_nil, fieldMoves_kept, Nat.add_zero]

theorem sectionRead_pulse (old : TuneSet) (m : Memory) (a : Nat) :
    let byte (i : Nat) : Nat := (memGet m (a + i)).toNat
    readSection old m a .pulse =
      some ({ old with pulse := ⟨fieldKept 0 240 (byte 4), fieldKept 0 240 (byte 5), fieldKept 0 240 (byte 6), fieldKept 0 240 (byte 7),
          fieldKept 1 15 (byte 8)⟩ },
        fieldChanges 0 240 (byte 4) + fieldChanges 0 240 (byte 5) + fieldChanges 0 240 (byte 6) + fieldChanges 0 240 (byte 7)
          + fieldChanges 1 15 (byte 8)) := by
  simp (disch := decide) only [readSection, readPulseTune, PulseTune.clamp, PulseTune.fields, clampNat_kept, countChanged_cons,
    countChanged_nil, fieldMoves_kept, Nat.add_zero, Nat.add_assoc]

/-! ### GEARBOX -/

/-- A ratio of the list that begins at a place of the section. -/
def ratioWord (m : Memory) (a place i : Nat) : Nat := memLe m 2 (a + (place + 2 * i))

theorem readWords_ratio (m : Memory) (n a place : Nat) : readWords m n (a + place) = (List.range n).map (ratioWord m a place) :=
  List.map_congr_left fun i _ => congrArg (memLe m 2) (Nat.add_assoc a place (2 * i))

/-- GEARBOX as it is kept (R33, R109, R160). -/
def gearKept (m : Memory) (a : Nat) : GearTune :=
  let byte (i : Nat) : Nat := (memGet m (a + i)).toNat
  let forward := fieldKept 1 12 (byte 4)
  let reverse := fieldKept 0 2 (byte 5)
  { forward := forward, reverse := reverse, tolerance := fieldKept 1 10 (byte 6)
    forwardRatios := (List.range 12).map (ratioKept forward (ratioWord m a 10))
    reverseRatios := (List.range 2).map (ratioKept reverse (ratioWord m a 34))
    cycle := { gate := fieldKept 1 64 (byte 7), width := fieldKept 1 256 (memLe m 2 (a + 8)), weights := readWords m 16 (a + 38) } }

theorem readGearTune_clamp (m : Memory) (a : Nat) : (readGearTune m a).clamp = gearKept m a := by
  unfold GearTune.clamp readGearTune
  dsimp only
  rw [readWords_ratio m 12, readWords_ratio m 2, clampRatios_range, clampRatios_range]
  simp (disch := decide) only [CycleTune.clamp, clampNat_kept]
  rfl

theorem fieldKept_le {lo hi : Nat} (range : lo ≤ hi) (n : Nat) : fieldKept lo hi n ≤ hi := by
  rw [← clampNat_kept range]
  exact (clampNat_bounds range n).2

theorem le_fieldKept {lo hi : Nat} (range : lo ≤ hi) (n : Nat) : lo ≤ fieldKept lo hi n := by
  rw [← clampNat_kept range]
  exact (clampNat_bounds range n).1

/-- The fields of GEARBOX that are changed, as a count. -/
def gearChanges (m : Memory) (a : Nat) : Nat :=
  let byte (i : Nat) : Nat := (memGet m (a + i)).toNat
  fieldChanges 1 12 (byte 4) + fieldChanges 0 2 (byte 5) + fieldChanges 1 10 (byte 6) + fieldChanges 1 64 (byte 7)
    + fieldChanges 1 256 (memLe m 2 (a + 8))
    + ((List.range (fieldKept 1 12 (byte 4))).map fun i => fieldChanges 64 2047 (ratioWord m a 10 i)).sum
    + ((List.range (fieldKept 0 2 (byte 5))).map fun i => fieldChanges 64 2047 (ratioWord m a 34 i)).sum

theorem gearTune_changed (m : Memory) (a : Nat) :
    countChanged (readGearTune m a).fields (gearKept m a).fields = gearChanges m a := by
  unfold GearTune.fields
  rw [countChanged_append (by simp [readGearTune, gearKept, readWords]), countChanged_append (by simp [readGearTune, gearKept, readWords]),
    countChanged_append (by rfl)]
  have forwardRaw : (readGearTune m a).forwardRatios = (List.range 12).map (ratioWord m a 10) := readWords_ratio m 12 a 10
  have reverseRaw : (readGearTune m a).reverseRatios = (List.range 2).map (ratioWord m a 34) := readWords_ratio m 2 a 34
  have forward : countChanged (((List.range 12).map (ratioWord m a 10)).map Int.ofNat) ((gearKept m a).forwardRatios.map Int.ofNat) = _ :=
    countChanged_ratios (fieldKept_le (by decide) (memGet m (a + 4)).toNat) (ratioWord m a 10)
  have reverse : countChanged (((List.range 2).map (ratioWord m a 34)).map Int.ofNat) ((gearKept m a).reverseRatios.map Int.ofNat) = _ :=
    countChanged_ratios (fieldKept_le (by decide) (memGet m (a + 5)).toNat) (ratioWord m a 34)
  rw [forwardRaw, reverseRaw, forward, reverse]
  simp only [readGearTune, gearKept, CycleTune.fields, countChanged_cons, countChanged_nil, fieldMoves_kept, gearChanges]
  omega

theorem gearTune_sound (m : Memory) (a : Nat) : ((readGearTune m a).sound && (gearKept m a).sound) = true ↔
    (memGet m (a + 4)).toNat ≠ 0
      ∧ (∀ i, i + 1 < (memGet m (a + 4)).toNat → i < 11 → memLe m 2 (a + (12 + 2 * i)) < memLe m 2 (a + (10 + 2 * i)))
      ∧ ∀ i, i + 1 < (gearKept m a).forward →
        ratioKept (gearKept m a).forward (ratioWord m a 10) (i + 1) < ratioKept (gearKept m a).forward (ratioWord m a 10) i := by
  have low : 1 ≤ (gearKept m a).forward := le_fieldKept (by decide) _
  have high : (gearKept m a).forward ≤ 12 := fieldKept_le (by decide) _
  have raw : (readGearTune m a).sound = true ↔ (memGet m (a + 4)).toNat ≠ 0
      ∧ ∀ i, i + 1 < (memGet m (a + 4)).toNat → i < 11 → memLe m 2 (a + (12 + 2 * i)) < memLe m 2 (a + (10 + 2 * i)) := by
    unfold GearTune.sound
    rw [Bool.and_eq_true, decide_eq_true_eq]
    rw [show (readGearTune m a).forwardRatios = (List.range 12).map (ratioWord m a 10) from readWords_ratio m 12 a 10]
    refine and_congr Iff.rfl ((strictlyDecreasing_range (ratioWord m a 10) _ 12).trans ?_)
    refine forall_congr' fun i => imp_congr_right fun _ => imp_congr (by omega) ?_
    unfold ratioWord
    rw [show 10 + 2 * (i + 1) = 12 + 2 * i by omega]
  have kept : (gearKept m a).sound = true ↔ ∀ i, i + 1 < (gearKept m a).forward →
      ratioKept (gearKept m a).forward (ratioWord m a 10) (i + 1) < ratioKept (gearKept m a).forward (ratioWord m a 10) i := by
    unfold GearTune.sound
    rw [Bool.and_eq_true, decide_eq_true_eq, and_iff_right (by omega)]
    refine (strictlyDecreasing_range _ (gearKept m a).forward 12).trans ?_
    exact forall_congr' fun i => forall_congr' fun below => ⟨fun h => h (by omega), fun h _ => h⟩
  rw [Bool.and_eq_true, raw, kept, and_assoc]

theorem sectionRead_gearbox (old : TuneSet) (m : Memory) (a : Nat) :
    let sound : Prop := (memGet m (a + 4)).toNat ≠ 0
      ∧ (∀ i, i + 1 < (memGet m (a + 4)).toNat → i < 11 → memLe m 2 (a + (12 + 2 * i)) < memLe m 2 (a + (10 + 2 * i)))
      ∧ ∀ i, i + 1 < (gearKept m a).forward →
        ratioKept (gearKept m a).forward (ratioWord m a 10) (i + 1) < ratioKept (gearKept m a).forward (ratioWord m a 10) i
    (sound → readSection old m a .gearbox = some ({ old with gearbox := gearKept m a }, gearChanges m a))
      ∧ (¬ sound → readSection old m a .gearbox = none) := by
  intro sound
  unfold readSection
  dsimp only
  rw [readGearTune_clamp, gearTune_changed]
  exact read_if (gearTune_sound m a) rfl

end Sys2Proof.Proofs
end

section
/-! TUNE accepted: its immediate effects (R21, R49) and its four steps (R161). -/
namespace Sys2Proof.Proofs
open Sys2Proof Sys2Proof.Machine

/-! ### The lowered fault limit (R49) -/

/-- A channel under a lowered limit. -/
def channelLowered (limit : Nat) (c : ChannelState) : ChannelState :=
  { c with counter := min limit c.counter, health := if limit ≤ c.counter then .faulted else c.health }

theorem lowered_eq (limit : Nat) : (fun c : ChannelState =>
    { c with counter := min limit c.counter, health := if min limit c.counter = limit then .faulted else c.health })
      = channelLowered limit := by
  funext c
  unfold channelLowered
  simp only [min_eq_left_iff]

theorem lowered_faults (limit : Nat) (c : ChannelState) :
    (c.health = .good ∧ (channelLowered limit c).health = .faulted) ↔ (c.health = .good ∧ limit ≤ c.counter) := by
  refine and_congr_right fun good => ?_
  unfold channelLowered
  by_cases at_ : limit ≤ c.counter
  · simp [at_]
  · simp [at_, good]

theorem any_channel (p : Pulse) (test : ChannelState → Bool) :
    [p.p0, p.p1, p.p2, p.p3].any test = true ↔ ∃ ch, test (p.get ch) = true := by
  constructor
  · intro h
    simp only [List.any_cons, List.any_nil, Bool.or_false, Bool.or_eq_true] at h
    rcases h with h | h | h | h
    exacts [⟨.p0, h⟩, ⟨.p1, h⟩, ⟨.p2, h⟩, ⟨.p3, h⟩]
  · rintro ⟨ch, h⟩
    cases ch
    all_goals
      change test _ = true at h
      simp only [Pulse.get] at h
      simp [h]

/-- The channels under a lowered limit. -/
def limitLowered (s : State) (limit : Nat) : State := { s with pulse := s.pulse.each (channelLowered limit) }

theorem lowerLimit_eq (s : State) (limit : Nat) : s.lowerLimit limit =
    if [s.pulse.p0, s.pulse.p1, s.pulse.p2, s.pulse.p3].any
        (fun c => decide (c.health = .good ∧ (channelLowered limit c).health = .faulted))
      then (limitLowered s limit).setNotice .channel else limitLowered s limit := by
  unfold State.lowerLimit limitLowered
  dsimp only
  rw [← lowered_eq]
  rfl

theorem lowerLimit_faults {s : State} {limit : Nat} (high : s.resetLow = false)
    (faults : ∃ ch, (s.pulse.get ch).health = .good ∧ limit ≤ (s.pulse.get ch).counter) :
    s.lowerLimit limit = { limitLowered s limit with port := { s.port with notice := s.port.notice ||| 0x20 } } := by
  obtain ⟨ch, fault⟩ := faults
  rw [lowerLimit_eq, if_pos ((any_channel _ _).2 ⟨ch, decide_eq_true ((lowered_faults limit _).2 fault)⟩),
    State.setNotice_live _ _ (by exact high)]
  rfl

theorem lowerLimit_quiet {s : State} {limit : Nat}
    (quiet : ∀ ch, ¬ ((s.pulse.get ch).health = .good ∧ limit ≤ (s.pulse.get ch).counter)) :
    s.lowerLimit limit = limitLowered s limit := by
  rw [lowerLimit_eq, if_neg fun any => ?_]
  obtain ⟨ch, fault⟩ := (any_channel _ _).1 any
  exact quiet ch ((lowered_faults limit _).1 (of_decide_eq_true fault))

/-! ### The SLIPPING substitution (R21) -/

/-- A known gear beyond the tuned counts. -/
abbrev gearBeyond (s : State) : Prop :=
  s.board.gear.age ≠ .unknown
    ∧ ((1 ≤ s.board.gear.value ∧ s.board.gear.value ≤ 12 ∧ (s.tune.gearbox.forward : Int) < s.board.gear.value)
      ∨ ((s.board.gear.value = -1 ∨ s.board.gear.value = -2) ∧ (s.tune.gearbox.reverse : Int) < -s.board.gear.value))

theorem gearBeyond_iff (s : State) : (s.board.gear.known && nonNeutral s.board.gear.value
    && decide (s.tune.gearbox.store s.board.gear.value ≠ s.board.gear.value)) = true ↔ gearBeyond s := by
  rw [Bool.and_eq_true, Bool.and_eq_true, known_iff, decide_eq_true_eq, and_assoc]
  refine and_congr_right fun _ => ?_
  unfold nonNeutral GearTune.store slipping
  rw [decide_eq_true_eq]
  split <;> omega

theorem substituteSlipping_still {s : State} (still : ¬ gearBeyond s) : s.substituteSlipping = s :=
  if_neg fun h => still ((gearBeyond_iff s).1 h)

/-- With a SLIPPING gear every sample handed on is 0 (R111, R112). -/
theorem newSamples_slipping {s : State} (slips : s.board.gear.value = 13) : s.newSamples =
    (s.fittedWhere (fun c => c.cls.hasResidue)).map (fun e => ⟨e.1, 0, false⟩) := by
  have neutral : s.board.inGear = false := Bool.eq_false_iff.2 fun geared => by
    obtain ⟨-, range⟩ := (inGear_iff _).1 geared
    omega
  have gearbox : s.gearboxValue = 0 := by
    unfold State.gearboxValue
    rw [neutral, Bool.and_false]
    rfl
  have axle (n : Nat) : s.axleShare n = 0 := by
    unfold State.axleShare
    rw [neutral, Bool.and_false]
    rfl
  unfold State.newSamples
  refine List.map_congr_left fun e _ => ?_
  rw [axle, gearbox]
  split <;> rfl

/-- The samples once a SLIPPING gear has been handed on (R110). -/
def slippingFed (s : State) : List SlotSample :=
  if s.supply.power = .run ∧ s.board.engineTorque.age = .fresh
    then s.samples ++ (s.fittedWhere (fun c => c.cls.hasResidue)).map (fun e => ⟨e.1, 0, false⟩) else s.samples

theorem slipping_highByte (r : QRecord) : ({ r with value := slipping } : QRecord).bytes.getD 1 0 = 0 := by
  simp [QRecord.bytes, leInt16, leBytes, slipping]

/-- A gear beyond the tuned counts becomes SLIPPING, and the change is handed on (R21, R34). -/
theorem substituteSlipping_beyond {s : State} (form : s.port.mem.wf) (high : s.resetLow = false) (beyond : gearBeyond s) :
    ∃ t, s.substituteSlipping = t
      ∧ t = { s with
          board := { s.board with gear := { s.board.gear with value := 13 } }
          samples := slippingFed s
          port := { s.port with mem := t.port.mem } }
      ∧ t.byteAt 0xA4 = 13 ∧ t.byteAt 0xA5 = 0 ∧ bytesKept s t (within 0xA4 12) := by
  have frame := putRecord_frame s .gear { s.board.gear with value := slipping }
  have kept := putRecord_kept form .gear { s.board.gear with value := slipping }
  have low := putRecord_byteAt form high .gear { s.board.gear with value := slipping } (i := 0) (by decide)
  have high_ := putRecord_byteAt form high .gear { s.board.gear with value := slipping } (i := 1) (by decide)
  have put : s.substituteSlipping = (s.putRecord .gear { s.board.gear with value := slipping }).gearHandOn := by
    refine (if_pos ((gearBeyond_iff s).2 beyond)).trans (if_pos ?_)
    refine Bool.or_eq_true_iff.2 (.inl (decide_eq_true ?_))
    have differ : s.board.gear.value ≠ 13 := by omega
    exact differ
  generalize s.putRecord .gear { s.board.gear with value := slipping } = u at frame kept low high_ put
  have gear : u.board.gear.value = 13 := by rw [frame]; rfl
  have handed : u.gearHandOn = u.cycleHandOn := by
    refine dutyGear_still (.inl (Bool.eq_false_iff.2 fun geared => ?_))
    have still : u.cycleHandOn.board.gear.value = 13 := by rw [u.cycleHandOn_frame]; exact gear
    obtain ⟨-, range⟩ := (inGear_iff _).1 geared
    omega
  have samples : u.cycleHandOn.samples = slippingFed s := by
    unfold State.cycleHandOn slippingFed
    rw [newSamples_slipping gear, frame]
    by_cases acts : s.supply.power = .run ∧ s.board.engineTorque.age = .fresh
    · rw [if_pos acts]
      exact (congrArg State.samples (if_pos (by exact acts))).trans rfl
    · rw [if_neg acts]
      exact (congrArg State.samples (if_neg (by exact acts))).trans rfl
  have cycle := u.cycleHandOn_frame
  rw [samples] at cycle
  have memory : u.cycleHandOn.port.mem = u.port.mem := by rw [cycle]
  refine ⟨_, put.trans handed, ?_, (byteAt_congr memory _).trans low, (byteAt_congr memory _).trans (high_.trans (slipping_highByte _)),
    bytesKept_trans kept (bytesKept_of_mem memory _)⟩
  rw [memory, cycle]
  exact congrArg (fun t : State => { t with samples := slippingFed s }) frame

/-! ### The four steps (R161) -/

theorem checkTune_ok {s : State} {p : Slip} {sec : TuneSection} {new : TuneSet} {changed : Nat} (depot : s.depot.state = .depot)
    (code : sectionOfCode (s.byteAt p.inOffset).toNat = some sec) (untuned : sec ∉ s.depot.tuned) (length : p.inLength = sec.length)
    (read : readSection s.tune s.port.mem p.inOffset sec = some (new, changed)) : checkTune s p = .ok (sec, new, changed) := by
  have long : ¬ p.inLength < 4 := by
    rw [length]
    cases sec <;> decide
  unfold checkTune
  rw [if_neg (not_not_intro depot), if_neg long, show memGet s.port.mem p.inOffset = s.byteAt p.inOffset from rfl, code]
  dsimp only
  rw [if_neg (by rw [List.contains_iff_mem]; exact untuned), if_neg (not_not_intro length), read]

theorem waitsAt_eq (s : State) (cls : ComponentClass) : s.waitsAt cls = fun x => match s.slotAt x.slot with
    | some c => decide (c.cls = cls)
    | none => false := by
  funext x
  unfold State.waitsAt
  cases s.slotAt x.slot <;> rfl

theorem exec_tune {s : State} {p : Slip} {sec : TuneSection} {new : TuneSet} {changed : Nat} (holds : s.holdsSlip .tune p)
    (ok : checkTune s p = .ok (sec, new, changed)) :
    exec .tune s = .next ((s.applyTune sec new).returnSlip p ⟨if changed = 0 then .done else .doneClamped, changed, 0⟩) := by
  refine exec_back (work := tuneWork) holds rfl ?_
  unfold tuneWork
  rw [ok]

/-- Settles O44: the four steps, their two effects, and the nine sections as they are read. -/
theorem tuneTakesItsFourSteps : Obligations.TuneTakesItsFourSteps := by
  unfold Obligations.TuneTakesItsFourSteps
  refine ⟨fun s p sec new changed holds depot code untuned length read => ?_, fun s live form => ?_, fun s limit live => ?_,
    fun old m a => ?_⟩
  · intro waits settled closed replaced after
    have step := exec_tune holds (checkTune_ok depot code untuned length read)
    have settledEq (cls : ComponentClass) : s.takeWaiting (s.waitsAt cls) = settled cls :=
      congrArg s.takeWaiting (waitsAt_eq s cls)
    have tune (cls : ComponentClass) : (settled cls).tune = s.tune := by
      show (s.takeWaiting _).tune = s.tune
      rw [State.takeWaiting_frame]
    have closedEq : (s.settleForTune sec).tuneCloseOut sec new = closed := by
      clear_value settled
      cases sec
      case gearbox =>
        show (s.takeWaiting (s.waitsAt .gearbox)).tuneCloseOut .gearbox new = _
        rw [settledEq]
        unfold State.tuneCloseOut CycleTune.regates
        dsimp only
        rw [tune]
        simp only [decide_eq_true_eq]
        rfl
      case axle =>
        show (s.takeWaiting (s.waitsAt .axle)).tuneCloseOut .axle new = _
        rw [settledEq]
        unfold State.tuneCloseOut CycleTune.regates
        dsimp only
        rw [tune]
        simp only [decide_eq_true_eq]
        rfl
      all_goals rfl
    have applied : s.applyTune sec new = after := by
      unfold State.applyTune
      rw [closedEq]
      clear_value closed
      cases sec <;> rfl
    rw [step, applied]
  · intro r beyond
    exact ⟨substituteSlipping_still, substituteSlipping_beyond form live.2⟩
  · intro faults
    have moved : ∃ t, s.lowerLimit limit = t
      ∧ t = { limitLowered s limit with port := { s.port with notice := t.port.notice } }
      ∧ ((∃ ch, faults (s.pulse.get ch)) → t.port.notice = s.port.notice ||| 0x20)
      ∧ ((∀ ch, ¬ faults (s.pulse.get ch)) → t.port.notice = s.port.notice) := by
      by_cases any : ∃ ch, faults (s.pulse.get ch)
      · exact ⟨_, lowerLimit_faults live.2 any, rfl, fun _ => rfl, fun none_ => absurd any.choose_spec (none_ _)⟩
      · exact ⟨_, lowerLimit_quiet (not_exists.1 any), rfl, fun some_ => absurd some_ any, fun _ => rfl⟩
    obtain ⟨t, lowered, frame, loud, quiet⟩ := moved
    have pulse : t.pulse = s.pulse.each (channelLowered limit) := by rw [frame]; rfl
    refine ⟨t, lowered, ?_, by rw [pulse]; rfl, fun ch => ?_, loud, quiet⟩
    · rw [pulse]
      exact frame
    · rw [pulse, pulse_get_each]
      rfl
  · intro byte word short words kept changes keptInt changesInt start startSound engine engineSound forward reverse ratio ratioChanges
      gearbox gearboxSound axle pulse supplySound
    refine ⟨sectionRead_supply old m a, sectionRead_start old m a, ?_, sectionRead_clutch old m a, ?_, ?_,
      sectionRead_pulse old m a, sectionRead_journal old m a, rfl⟩
    · exact sectionRead_engine old m a
    · have weights : readWords m 16 (a + 38) = words 16 38 := readWords_ratio m 16 a 38
      have tune : gearKept m a = gearbox := congrArg (fun weights : List Nat =>
        ({ gearbox with cycle := { gearbox.cycle with weights := weights } } : GearTune)) weights
      have sections := sectionRead_gearbox old m a
      rw [tune] at sections
      exact sections
    · exact sectionRead_axle old m a

end Sys2Proof.Proofs
end

section
/-! Fields written in a row, and read back (0.5.2). -/
namespace Sys2Proof.Proofs
open Sys2Proof Sys2Proof.Machine

/-- A memory shows a row of bytes from an address on. -/
def shows (m : Memory) (a : Nat) (bytes : List Byte) : Prop := ∀ i, i < bytes.length → memGet m (a + i) = bytes.getD i 0

theorem shows_memPutAll {m : Memory} (form : m.wf) {a : Nat} {bytes : List Byte} (fits : bytes.length ≤ Config.memorySize) :
    shows (memPutAll m a bytes) a bytes := fun i hi => by
  rw [memGet_memPutAll_inside bytes m a i form.1 hi fits, List.getD_eq_getElem _ _ hi]

theorem shows_append {m : Memory} {a : Nat} {xs ys : List Byte} :
    shows m a (xs ++ ys) ↔ shows m a xs ∧ shows m (a + xs.length) ys := by
  constructor
  · refine fun h => ⟨fun i hi => ?_, fun i hi => ?_⟩
    · rw [h i (by rw [List.length_append]; omega), List.getD_append _ _ _ _ hi]
    · rw [Nat.add_assoc, h (xs.length + i) (by rw [List.length_append]; omega), List.getD_append_right _ _ _ _ (by omega),
        Nat.add_sub_cancel_left]
  · rintro ⟨left, right⟩ i hi
    by_cases early : i < xs.length
    · rw [List.getD_append _ _ _ _ early]
      exact left i early
    · rw [List.getD_append_right _ _ _ _ (by omega), ← right (i - xs.length) (by rw [List.length_append] at hi; omega), Nat.add_assoc,
        Nat.add_sub_cancel' (by omega)]

theorem shows_byte {m : Memory} {a : Nat} {b : Byte} {bytes : List Byte} (h : shows m a (b :: bytes)) : memGet m a = b :=
  h 0 (Nat.succ_pos _)

theorem shows_leBytes {m : Memory} {a k n : Nat} (h : shows m a (leBytes k n)) (fits : n < 256 ^ k) : memLe m k a = n :=
  (memLe_of_leBytes fun i hi => h i (by rwa [leBytes_length])).trans (Nat.mod_eq_of_lt fits)

theorem shows_code {m : Memory} {a n : Nat} (h : shows m a (leBytes 1 n)) (fits : n < 256) : (memGet m a).toNat = n := by
  rw [shows_byte h, BitVec.toNat_ofNat]
  exact Nat.mod_eq_of_lt fits

/-- A row of fields of one width. -/
theorem shows_cells {m : Memory} {k : Nat} (cells : List Nat) : ∀ {a : Nat}, shows m a (cells.flatMap (leBytes k)) →
    (∀ n ∈ cells, n < 256 ^ k) → (List.range cells.length).map (fun i => memLe m k (a + k * i)) = cells := by
  induction cells with
  | nil => intro a _ _; rfl
  | cons n rest ih =>
    intro a h fits
    obtain ⟨first, later⟩ := shows_append.1 h
    rw [leBytes_length] at later
    rw [List.length_cons, List.range_succ_eq_map, List.map_cons, List.map_map]
    refine congrArg₂ List.cons (shows_leBytes first (fits n List.mem_cons_self)) ?_
    refine (List.map_congr_left fun i _ => ?_).trans (ih later fun x hx => fits x (List.mem_cons_of_mem _ hx))
    show memLe m k (a + k * (i + 1)) = _
    rw [Nat.mul_succ, Nat.add_comm (k * i) k, Nat.add_assoc]

theorem readCells_shown {m : Memory} {a : Nat} {cells : List Nat} (h : shows m a (cells.flatMap (leBytes 8)))
    (fits : ∀ n ∈ cells, n < 256 ^ 8) : readCells m cells.length a = cells := shows_cells cells h fits

theorem shows_leInt16 {m : Memory} {a : Nat} {v : Int} (h : shows m a (leInt16 v)) (low : -32768 ≤ v) (high : v < 32768) :
    signed16 (memLe m 2 a) = v := by
  rw [shows_leBytes h (by omega)]
  unfold signed16
  split <;> omega

theorem readStack_shown {m : Memory} (stack : List Int) : ∀ {a : Nat}, shows m a (stack.flatMap leInt16) →
    (∀ v ∈ stack, -32768 ≤ v ∧ v < 32768) → readStack m stack.length a = stack := by
  induction stack with
  | nil => intro a _ _; rfl
  | cons v rest ih =>
    intro a h fits
    obtain ⟨first, later⟩ := shows_append.1 h
    obtain ⟨low, high⟩ := fits v List.mem_cons_self
    unfold readStack
    rw [List.length_cons, List.range_succ_eq_map, List.map_cons, List.map_map]
    refine congrArg₂ List.cons (shows_leInt16 first low high) ?_
    refine (List.map_congr_left fun i _ => ?_).trans (ih later fun x hx => fits x (List.mem_cons_of_mem _ hx))
    show signed16 (memLe m 2 (a + 2 * (i + 1))) = signed16 (memLe m 2 (a + 2 + 2 * i))
    rw [Nat.mul_succ, Nat.add_comm (2 * i) 2, Nat.add_assoc]

theorem flatMap_length {α : Type} {f : α → List Byte} {k : Nat} (each : ∀ x, (f x).length = k) (l : List α) :
    (l.flatMap f).length = k * l.length := by
  rw [List.length_flatMap, List.map_congr_left fun x _ => each x]
  simp [Nat.mul_comm]

theorem leInt16_length (v : Int) : (leInt16 v).length = 2 := leBytes_length 2 _

theorem padTo_length (k : Nat) (bytes : List Byte) : (padTo k bytes).length = k := by
  unfold padTo
  simp

/-- A byte of a padded row is the row's own. -/
theorem padTo_getD {k i : Nat} {bytes : List Byte} (inside : i < bytes.length) (short : bytes.length ≤ k) :
    (padTo k bytes).getD i 0 = bytes.getD i 0 := by
  unfold padTo
  simp [List.getD_eq_getElem?_getD, show i < k by omega, inside]

end Sys2Proof.Proofs
end

section
/-! An export record, and what an import reads of it (12.6, R174). -/
namespace Sys2Proof.Proofs
open Sys2Proof Sys2Proof.Machine

/-! ### The parts of a record -/

/-- What a record's header and body head show (12.6). -/
structure ShownRecord (m : Memory) (a : Nat) (c : Component) : Prop where
  position : shows m (a + 1) (leBytes 1 c.position)
  length : shows m (a + 2) (leBytes 1 c.serial.length)
  serial : shows m (a + 4) (serialBytes c.serial)
  fitCount : shows m (a + 28) (leBytes 4 c.fitCount)
  flag : memGet m (a + 32) = 0
  code : shows m (a + 36) (leBytes 1 c.cls.code)
  points : shows m (a + 37) (leBytes 1 c.body.points)
  direction : shows m (a + 38) (leBytes 1 (directionCode (c.body.residue.bind (·.candidate))))
  body : shows m (a + 40) c.body.bytes

theorem shownRecord {m : Memory} {a : Nat} {c : Component} (h : shows m a (c.exportBytes false)) : ShownRecord m a c := by
  unfold Component.exportBytes serialBytes at h
  simp only [shows_append, List.length_append, leBytes_length, padTo_length, List.length_cons, List.length_nil,
    Nat.reduceAdd] at h
  obtain ⟨⟨⟨⟨⟨⟨⟨⟨⟨⟨⟨⟨-, position⟩, length⟩, -⟩, serial⟩, -⟩, fitCount⟩, flags⟩, code⟩, points⟩, direction⟩, -⟩, body⟩ := h
  exact ⟨position, length, serial, fitCount, shows_byte flags, code, points, direction, body⟩

theorem exportBytes_length (c : Component) (retired : Bool) : (c.exportBytes retired).length = 40 + c.body.bytes.length := by
  unfold Component.exportBytes serialBytes
  simp only [List.length_append, leBytes_length, padTo_length, List.length_cons, List.length_nil]

theorem tailBytes_length (r : Residue) : r.tailBytes.length = 4 + 2 * r.stack.length := by
  unfold Residue.tailBytes
  rw [List.length_append, List.length_append, leInt16_length, leBytes_length, flatMap_length leInt16_length]

/-- The cells of a body are whole (R3, R5). -/
def cellsWhole : Body → Prop
  | .engine b => b.cells.length = 17
  | .gearbox b => b.cells.length = 16
  | _ => True

theorem body_length {b : Body} (whole : cellsWhole b) : 40 + b.bytes.length = b.cls.baseLength + 2 * b.points := by
  cases b with
  | engine b =>
    have cells : (b.cells.flatMap (leBytes 8)).length = 8 * 17 := (flatMap_length (leBytes_length 8) _).trans (congrArg _ whole)
    simp only [Body.bytes, StartCounts.bytes, List.length_append, leBytes_length, cells]
    rfl
  | gearbox b =>
    have cells : (b.cells.flatMap (leBytes 8)).length = 8 * 16 := (flatMap_length (leBytes_length 8) _).trans (congrArg _ whole)
    simp only [Body.bytes, List.length_append, leBytes_length, cells, tailBytes_length]
    show _ = 188 + 2 * b.residue.stack.length
    omega
  | axle b =>
    simp only [Body.bytes, List.length_append, leBytes_length, tailBytes_length]
    show _ = 60 + 2 * b.residue.stack.length
    omega
  | _ =>
    simp only [Body.bytes, List.length_append, leBytes_length]
    rfl

/-! ### The body read back -/

theorem timeCeiling_lt : Config.timeCeiling < 256 ^ 8 := by decide
theorem eventCeiling_lt : Config.eventCeiling < 256 ^ 4 := by decide
theorem damageCeiling_lt : Config.damageCeiling < 256 ^ 8 := by decide
theorem energyCeiling_lt : Config.energyCeiling < 256 ^ 8 := by decide

/-- A cell is at most the sum of them all. -/
theorem cells_lt {cells : List Nat} (sum : cells.sum ≤ Config.timeCeiling) : ∀ n ∈ cells, n < 256 ^ 8 := fun n at_ =>
  lt_of_le_of_lt ((List.single_le_sum (fun _ _ => Nat.zero_le _) n at_).trans sum) timeCeiling_lt

/-- A residue whose values fit two signed bytes. -/
def valuesFit (r : Residue) : Prop :=
  (∀ v ∈ r.stack, -32768 ≤ v ∧ v < 32768) ∧ ∀ c, r.candidate = some c → -32768 ≤ c.value ∧ c.value < 32768

theorem readCandidate_shown {m : Memory} {a : Nat} {r : Residue} (fit : valuesFit r)
    (h : shows m a (leInt16 ((r.candidate.map (·.value)).getD 0))) :
    readCandidate (directionCode r.candidate) (signed16 (memLe m 2 a)) = r.candidate := by
  cases held : r.candidate with
  | none => rfl
  | some c =>
    rw [held] at h
    obtain ⟨low, high⟩ := fit.2 c held
    rw [shows_leInt16 h low high]
    obtain ⟨value, direction⟩ := c
    cases direction <;> rfl

theorem tail_shown {m : Memory} {a : Nat} {r : Residue} (fit : valuesFit r) (h : shows m a r.tailBytes) :
    readCandidate (directionCode r.candidate) (signed16 (memLe m 2 a)) = r.candidate
      ∧ readStack m r.stack.length (a + 4) = r.stack := by
  unfold Residue.tailBytes at h
  simp only [shows_append, List.length_append, leInt16_length, leBytes_length, Nat.reduceAdd] at h
  obtain ⟨⟨value, -⟩, stack⟩ := h
  exact ⟨readCandidate_shown fit value, readStack_shown r.stack stack fit.1⟩

theorem readBody_engine {m : Memory} {a : Nat} {b : EngineBody} (lawful : (Body.engine b).lawful)
    (h : shows m (a + 40) (Body.engine b).bytes) : readBody m a .engine = .engine b := by
  obtain ⟨⟨cold, warm, hot, unobserved⟩, length, sum, idle, run, overspeeds⟩ := lawful
  have event := eventCeiling_lt
  have time := timeCeiling_lt
  simp only [Body.bytes, StartCounts.bytes, shows_append, List.length_append, leBytes_length, flatMap_length (leBytes_length 8), length,
    Nat.add_assoc, Nat.reduceAdd, Nat.reduceMul] at h
  obtain ⟨⟨⟨⟨⟨⟨⟨hcold, hwarm⟩, hhot⟩, hunobserved⟩, hrun⟩, hidle⟩, hcells⟩, hoverspeeds⟩ := h
  have cells := readCells_shown hcells (cells_lt (sum.trans_le run))
  rw [length] at cells
  unfold readBody
  rw [shows_leBytes hcold (by omega), shows_leBytes hwarm (by omega), shows_leBytes hhot (by omega), shows_leBytes hunobserved (by omega),
    shows_leBytes hrun (by omega), shows_leBytes hidle (by omega), cells, shows_leBytes hoverspeeds (by omega)]

theorem readBody_starter {m : Memory} {a : Nat} {b : StarterBody} (lawful : (Body.starter b).lawful)
    (h : shows m (a + 40) (Body.starter b).bytes) : readBody m a .starter = .starter b := by
  obtain ⟨attempts, failed, long, crank⟩ := lawful
  have event := eventCeiling_lt
  have time := timeCeiling_lt
  simp only [Body.bytes, shows_append, List.length_append, leBytes_length, Nat.add_assoc, Nat.reduceAdd] at h
  obtain ⟨⟨⟨hattempts, hfailed⟩, hlong⟩, hcrank⟩ := h
  unfold readBody
  rw [shows_leBytes hattempts (by omega), shows_leBytes hfailed (by omega), shows_leBytes hlong (by omega),
    shows_leBytes hcrank (by omega)]

theorem readBody_clutch {m : Memory} {a : Nat} {b : ClutchBody} (lawful : (Body.clutch b).lawful)
    (h : shows m (a + 40) (Body.clutch b).bytes) : readBody m a .clutch = .clutch b := by
  obtain ⟨engagements, hotSlips, energy, remainder⟩ := lawful
  have event := eventCeiling_lt
  have ceiling := energyCeiling_lt
  have small : b.remainder < 256 ^ 2 := lt_trans remainder (by decide)
  simp only [Body.bytes, shows_append, List.length_append, leBytes_length, Nat.add_assoc, Nat.reduceAdd] at h
  obtain ⟨⟨⟨⟨hengagements, hhotSlips⟩, henergy⟩, hremainder⟩, -⟩ := h
  unfold readBody
  rw [shows_leBytes hengagements (by omega), shows_leBytes hhotSlips (by omega), shows_leBytes henergy (by omega),
    shows_leBytes hremainder small]

theorem readBody_pto {m : Memory} {a : Nat} {b : PtoBody} (lawful : (Body.pto b).lawful)
    (h : shows m (a + 40) (Body.pto b).bytes) : readBody m a .pto = .pto b := by
  obtain ⟨time, engagements⟩ := lawful
  have event := eventCeiling_lt
  have ceiling := timeCeiling_lt
  simp only [Body.bytes, shows_append, List.length_append, leBytes_length, Nat.add_assoc, Nat.reduceAdd] at h
  obtain ⟨⟨htime, hengagements⟩, -⟩ := h
  unfold readBody
  rw [shows_leBytes htime (by omega), shows_leBytes hengagements (by omega)]

theorem readBody_gearbox {m : Memory} {a : Nat} {b : GearboxBody} (lawful : (Body.gearbox b).lawful) (length : b.cells.length = 16)
    (fit : valuesFit b.residue) (points : (memGet m (a + 37)).toNat = b.residue.stack.length)
    (direction : (memGet m (a + 38)).toNat = directionCode b.residue.candidate)
    (h : shows m (a + 40) (Body.gearbox b).bytes) : readBody m a .gearbox = .gearbox b := by
  obtain ⟨shifts, sum, damage, drops⟩ := lawful
  have event := eventCeiling_lt
  have ceiling := damageCeiling_lt
  simp only [Body.bytes, shows_append, List.length_append, leBytes_length, flatMap_length (leBytes_length 8), length, Nat.add_assoc,
    Nat.reduceAdd, Nat.reduceMul] at h
  obtain ⟨⟨⟨⟨hshifts, hdrops⟩, hdamage⟩, hcells⟩, htail⟩ := h
  have cells := readCells_shown hcells (cells_lt sum)
  rw [length] at cells
  obtain ⟨candidate, stack⟩ := tail_shown fit htail
  unfold readBody
  rw [points, direction, candidate, stack, cells, shows_leBytes hshifts (by omega), shows_leBytes hdrops (by omega),
    shows_leBytes hdamage (by omega)]

theorem readBody_axle {m : Memory} {a : Nat} {b : AxleBody} (lawful : (Body.axle b).lawful)
    (fit : valuesFit b.residue) (points : (memGet m (a + 37)).toNat = b.residue.stack.length)
    (direction : (memGet m (a + 38)).toNat = directionCode b.residue.candidate)
    (h : shows m (a + 40) (Body.axle b).bytes) : readBody m a .axle = .axle b := by
  obtain ⟨clamped, damage, drops⟩ := lawful
  have event := eventCeiling_lt
  have ceiling := damageCeiling_lt
  simp only [Body.bytes, shows_append, List.length_append, leBytes_length, Nat.add_assoc, Nat.reduceAdd] at h
  obtain ⟨⟨⟨hdamage, hdrops⟩, hclamped⟩, htail⟩ := h
  obtain ⟨candidate, stack⟩ := tail_shown fit htail
  unfold readBody
  rw [points, direction, candidate, stack, shows_leBytes hdamage (by omega), shows_leBytes hdrops (by omega),
    shows_leBytes hclamped (by omega)]

end Sys2Proof.Proofs
end

section
/-! An export imported again (R13, R14, R174). -/
namespace Sys2Proof.Proofs
open Sys2Proof Sys2Proof.Machine

theorem classOfCode_code (cls : ComponentClass) : classOfCode cls.code = some cls := by cases cls <;> rfl

theorem classCode_lt (cls : ComponentClass) : cls.code < 256 := by cases cls <;> decide

theorem directionCode_le (c : Option Candidate) : directionCode c ≤ 2 := by
  rcases c with _ | ⟨value, direction⟩
  · decide
  · cases direction with
    | rising => exact Nat.le_succ 1
    | falling => exact le_rfl

theorem forty_le_baseLength (cls : ComponentClass) : 40 ≤ cls.baseLength := by cases cls <;> decide

/-! ### What a record that travels is -/

theorem residue_importable {r : Residue} {range : Int} (travels : r.travels range) (damage : r.damage ≤ Config.damageCeiling) :
    r.importable range = true := by
  obtain ⟨⟨-, turns, away⟩, points, candidate⟩ := travels
  unfold Residue.importable
  simp only [Bool.and_eq_true]
  refine ⟨⟨⟨⟨decide_eq_true damage, List.all_eq_true.2 fun v at_ => decide_eq_true (points v at_)⟩, ?_⟩, turns⟩, away⟩
  cases held : r.candidate with
  | none => rfl
  | some c => exact decide_eq_true (candidate c held)

theorem residue_fits {r : Residue} {range : Int} (travels : r.travels range) (small : range ≤ 2047) : valuesFit r := by
  obtain ⟨-, points, candidate⟩ := travels
  refine ⟨fun v at_ => ?_, fun c held => ?_⟩
  · have := points v at_
    omega
  · have := candidate c held
    omega

theorem travels_importable {c : Component} (travels : c.travels) : c.body.importable = true := by
  obtain ⟨-, -, -, -, -, lawful, kind⟩ := travels
  cases body : c.body with
  | engine b =>
    rw [body] at lawful
    obtain ⟨-, -, sum, idle, run, -⟩ := lawful
    unfold Body.importable
    rw [Bool.and_eq_true]
    refine ⟨decide_eq_true ⟨run, idle, sum⟩, List.all_eq_true.2 fun n at_ => decide_eq_true ?_⟩
    exact (List.single_le_sum (fun _ _ => Nat.zero_le _) n at_).trans (sum.trans_le run)
  | starter b =>
    rw [body] at lawful
    exact decide_eq_true lawful.2.2.2
  | clutch b =>
    rw [body] at lawful
    exact decide_eq_true lawful.2.2
  | pto b =>
    rw [body] at lawful
    exact decide_eq_true lawful.1
  | gearbox b =>
    rw [body] at lawful kind
    obtain ⟨-, sum, damage, -⟩ := lawful
    exact Bool.and_eq_true_iff.2 ⟨decide_eq_true sum, residue_importable kind.2 damage⟩
  | axle b =>
    rw [body] at lawful kind
    exact residue_importable kind lawful.2.1

theorem travels_cellsWhole {c : Component} (travels : c.travels) : cellsWhole c.body := by
  obtain ⟨-, -, -, -, -, lawful, kind⟩ := travels
  cases body : c.body with
  | engine b =>
    rw [body] at lawful
    exact lawful.2.1
  | gearbox b =>
    rw [body] at kind
    exact kind.1
  | _ => trivial

theorem travels_points {c : Component} (travels : c.travels) : c.body.points ≤ Config.stackLimit := by
  obtain ⟨-, -, -, -, -, -, kind⟩ := travels
  cases body : c.body with
  | gearbox b =>
    rw [body] at kind
    exact kind.2.1.1
  | axle b =>
    rw [body] at kind
    exact kind.1.1
  | _ => exact Nat.zero_le _

/-- A body of a class without a residue has no points and no candidate. -/
theorem points_without {b : Body} (without : b.cls.hasResidue = false) :
    b.points = 0 ∧ directionCode (b.residue.bind (·.candidate)) = 0 := by
  cases b with
  | gearbox b => cases without
  | axle b => cases without
  | _ => exact ⟨rfl, rfl⟩

/-! ### The record read back -/

theorem shown_points {m : Memory} {a : Nat} {c : Component} (travels : c.travels) (shown : ShownRecord m a c) :
    (memGet m (a + 37)).toNat = c.body.points :=
  shows_code shown.points (lt_of_le_of_lt (travels_points travels) (by decide))

theorem shown_direction {m : Memory} {a : Nat} {c : Component} (shown : ShownRecord m a c) :
    (memGet m (a + 38)).toNat = directionCode (c.body.residue.bind (·.candidate)) :=
  shows_code shown.direction (lt_of_le_of_lt (directionCode_le _) (by decide))

theorem shown_serial {m : Memory} {a : Nat} {c : Component} (travels : c.travels) (shown : ShownRecord m a c) :
    (memGet m (a + 2)).toNat = c.serial.length ∧ readSerial m a = c.serial := by
  obtain ⟨-, ⟨-, short⟩, -⟩ := travels
  have length : (memGet m (a + 2)).toNat = c.serial.length := shows_code shown.length (by omega)
  refine ⟨length, ?_⟩
  unfold readSerial memBytes
  rw [length]
  refine List.ext_getElem (by simp) fun i h inside => ?_
  rw [List.getElem_map, List.getElem_range, shown.serial i (by unfold serialBytes; rw [padTo_length]; omega)]
  unfold serialBytes
  rw [padTo_getD inside short, List.getD_eq_getElem _ _ inside]

theorem readBody_shown {m : Memory} {a : Nat} {c : Component} (travels : c.travels) (shown : ShownRecord m a c) :
    readBody m a c.cls = c.body := by
  have points := shown_points travels shown
  have direction := shown_direction shown
  have bytes := shown.body
  obtain ⟨-, -, -, -, -, lawful, kind⟩ := travels
  unfold Component.cls
  cases body : c.body with
  | engine b =>
    rw [body] at lawful bytes
    exact readBody_engine lawful bytes
  | starter b =>
    rw [body] at lawful bytes
    exact readBody_starter lawful bytes
  | clutch b =>
    rw [body] at lawful bytes
    exact readBody_clutch lawful bytes
  | pto b =>
    rw [body] at lawful bytes
    exact readBody_pto lawful bytes
  | gearbox b =>
    rw [body] at lawful bytes kind points direction
    exact readBody_gearbox lawful kind.1 (residue_fits kind.2 (by decide)) points direction bytes
  | axle b =>
    rw [body] at lawful bytes kind points direction
    exact readBody_axle lawful (residue_fits kind le_rfl) points direction bytes

theorem shown_headerGood {m : Memory} {a : Nat} {c : Component} (travels : c.travels) (shown : ShownRecord m a c) :
    headerGood m a c.cls = true ∧ (memGet m (a + 1)).toNat = c.position := by
  obtain ⟨length, serial⟩ := shown_serial travels shown
  obtain ⟨placed, size, printable, -⟩ := travels
  have low : c.position < 256 := by
    have range := (of_decide_eq_true placed).2
    split at range <;> omega
  have position : (memGet m (a + 1)).toNat = c.position := shows_code shown.position low
  refine ⟨?_, position⟩
  unfold headerGood
  rw [position, length, serial, Bool.and_eq_true, Bool.and_eq_true]
  exact ⟨⟨placed, decide_eq_true size⟩, List.all_eq_true.2 fun b at_ => decide_eq_true (printable b at_)⟩

/-- A record that travels passes every check of an import (R13, R14). -/
theorem shown_importRefusal {m : Memory} {a : Nat} {c : Component} (travels : c.travels) (shown : ShownRecord m a c) :
    memLe m 4 (a + 28) = c.fitCount ∧ importRefusal m a c.exportLength c.cls = none := by
  have points := shown_points travels shown
  have direction := shown_direction shown
  have few := travels_points travels
  have body := readBody_shown travels shown
  have importable := travels_importable travels
  have code : (memGet m (a + 36)).toNat = c.cls.code := shows_code shown.code (classCode_lt _)
  obtain ⟨-, -, -, -, ⟨some_, below⟩, -⟩ := travels
  have fitCount : memLe m 4 (a + 28) = c.fitCount := shows_leBytes shown.fitCount (lt_trans below eventCeiling_lt)
  refine ⟨fitCount, ?_⟩
  have long : ¬ c.exportLength < 40 := Nat.not_lt.2 ((forty_le_baseLength c.cls).trans (Nat.le_add_right _ _))
  have bare : ¬ (!c.cls.hasResidue && decide (c.body.points ≠ 0 ∨ directionCode (c.body.residue.bind (·.candidate)) ≠ 0)) = true := by
    rw [Bool.and_eq_true, Bool.not_eq_true', decide_eq_true_eq]
    rintro ⟨without, some_⟩
    obtain ⟨noPoints, noCandidate⟩ := points_without (b := c.body) without
    exact some_.elim (fun h => h noPoints) fun h => h noCandidate
  have sized : c.exportLength = c.cls.baseLength + 2 * c.body.points := rfl
  unfold importRefusal
  dsimp only
  rw [points, direction, fitCount, body, code, classOfCode_code, if_neg long, if_neg (not_not_intro shown.flag),
    if_neg (not_not_intro rfl), if_neg bare, if_neg (Nat.not_lt.2 (directionCode_le _)), if_neg (Nat.not_lt.2 few),
    if_neg (not_not_intro sized), if_neg (by omega), importable]
  rfl

/-- Settles O38: the row of bytes written is the row of fields read. -/
theorem exportImportsUnchanged : Obligations.ExportImportsUnchanged := by
  unfold Obligations.ExportImportsUnchanged
  intro m a c form travels fits m'
  have length : (c.exportBytes false).length = c.exportLength :=
    (exportBytes_length c false).trans (body_length (travels_cellsWhole travels))
  have shown : ShownRecord m' a c := shownRecord (shows_memPutAll form (by rw [length]; omega))
  obtain ⟨header, position⟩ := shown_headerGood travels shown
  obtain ⟨-, serial⟩ := shown_serial travels shown
  obtain ⟨fitCount, passes⟩ := shown_importRefusal travels shown
  exact ⟨length, header, position, serial, fitCount, passes, readBody_shown travels shown⟩

end Sys2Proof.Proofs
end

section
/-! The refusals of FIT and of its imports, in the order of their checks (R12 to R14, R173). -/
namespace Sys2Proof.Proofs
open Sys2Proof Sys2Proof.Machine

theorem byte_zero_iff (b : Byte) : b.toNat = 0 ↔ b = 0 := by
  rw [← BitVec.toNat_inj]
  rfl

/-! ### A header's checks (R12 check 3) -/

/-- A position its class allows (R2). -/
abbrev placed (cls : ComponentClass) (position : Nat) : Prop := 1 ≤ position ∧ position ≤ if cls = .axle then 3 else 1

theorem headerGood_iff (m : Memory) (a : Nat) (cls : ComponentClass) : headerGood m a cls = true ↔
    placed cls (memGet m (a + 1)).toNat ∧ (1 ≤ (memGet m (a + 2)).toNat ∧ (memGet m (a + 2)).toNat ≤ 16)
      ∧ ∀ i, i < (memGet m (a + 2)).toNat → 0x20 ≤ (memGet m (a + (4 + i))).toNat ∧ (memGet m (a + (4 + i))).toNat ≤ 0x7E := by
  unfold headerGood positionGood readSerial memBytes
  rw [Bool.and_eq_true, Bool.and_eq_true, decide_eq_true_eq, decide_eq_true_eq, and_assoc]
  refine and_congr_right fun _ => and_congr_right fun _ => ?_
  rw [List.all_map, List.all_eq_true]
  refine forall_congr' fun i => ?_
  rw [List.mem_range, Function.comp_apply, decide_eq_true_eq, Nat.add_assoc]

/-! ### The place a header names -/

theorem findSlot_taken {slots : List (Option Component)} {slot : Nat} {c : Component} (fitted : slots[slot]? = some (some c))
    (distinct : distinctPlaces slots) : findSlot slots c.cls c.position = some slot := by
  obtain ⟨inside, at_⟩ := List.getElem?_eq_some_iff.1 fitted
  refine List.findIdx?_eq_some_iff_getElem.2 ⟨inside, by rw [at_]; simp [holds], fun j below => ?_⟩
  cases other : slots[j] with
  | none => exact Bool.false_ne_true
  | some d =>
    intro same
    obtain ⟨cls, position⟩ := of_decide_eq_true same
    have there : slots[j]? = some (some d) := by rw [List.getElem?_eq_getElem (by omega), other]
    exact absurd (distinct j slot d c there fitted cls position) (by omega)

theorem findSlot_free {slots : List (Option Component)} {cls : ComponentClass} {position : Nat}
    (free : ∀ (slot : Nat) (c : Component), slots[slot]? = some (some c) → ¬ (c.cls = cls ∧ c.position = position)) :
    findSlot slots cls position = none := by
  refine List.findIdx?_eq_none_iff.2 fun o member => ?_
  cases o with
  | none => rfl
  | some c =>
    obtain ⟨slot, fitted⟩ := List.mem_iff_getElem?.1 member
    exact decide_eq_false (free slot c fitted)

/-! ### FIT (R12) -/

theorem exec_fit_refused {s : State} {p : Slip} {r : Result} (holds : s.holdsSlip .fit p) (refused : checkFit s p = .error r) :
    exec .fit s = .next (s.returnSlip p r) := by
  refine exec_back (work := fitWork) holds rfl ?_
  unfold fitWork
  rw [refused]

theorem checkFit_normal {s : State} {p : Slip} (normal : s.depot.state ≠ .depot) : checkFit s p = .error (refusal .notInDepot) :=
  if_pos normal

section
variable {s : State} {p : Slip} (depot : s.depot.state = .depot)
include depot

theorem checkFit_short (short : p.inLength < 20) : checkFit s p = .error (refusal .badLength) :=
  (if_neg (not_not_intro depot)).trans (if_pos short)

theorem checkFit_unclassed (long : 20 ≤ p.inLength) (code : classOfCode (memGet s.port.mem p.inOffset).toNat = none) :
    checkFit s p = .error (refusal .badSlotSpec) := by
  unfold checkFit
  dsimp only
  rw [if_neg (not_not_intro depot), if_neg (Nat.not_lt.2 long), code]

variable {cls : ComponentClass} (long : 20 ≤ p.inLength) (code : classOfCode (memGet s.port.mem p.inOffset).toNat = some cls)
include long code

theorem checkFit_header (bad : headerGood s.port.mem p.inOffset cls = false) : checkFit s p = .error (refusal .badSlotSpec) := by
  unfold checkFit
  dsimp only
  rw [if_neg (not_not_intro depot), if_neg (Nat.not_lt.2 long), code]
  dsimp only
  rw [bad]
  rfl

variable (good : headerGood s.port.mem p.inOffset cls = true)
include good

theorem checkFit_taken {slot : Nat} (taken : findSlot s.slots cls (memGet s.port.mem (p.inOffset + 1)).toNat = some slot) :
    checkFit s p = .error ⟨.slotTaken, slot, 0⟩ := by
  unfold checkFit
  dsimp only
  rw [if_neg (not_not_intro depot), if_neg (Nat.not_lt.2 long), code]
  dsimp only
  rw [good, taken]
  rfl

theorem checkFit_import {status : Status} (free : findSlot s.slots cls (memGet s.port.mem (p.inOffset + 1)).toNat = none)
    (more : 20 < p.inLength) (refused : importRefusal s.port.mem p.inOffset p.inLength cls = some status) :
    checkFit s p = .error (refusal status) := by
  unfold checkFit
  dsimp only
  rw [if_neg (not_not_intro depot), if_neg (Nat.not_lt.2 long), code]
  dsimp only
  rw [good, free]
  dsimp only
  rw [if_neg (by decide), if_neg (by omega), refused]

end

/-! ### An import (R13, R14, R173) -/

section
variable {m : Memory} {a length : Nat} {cls : ComponentClass}

/-- The body head of an import is one its class allows (R13). -/
abbrev headWhole (m : Memory) (a : Nat) (cls : ComponentClass) : Prop :=
  (memGet m (a + 32)).toNat = 0 ∧ classOfCode (memGet m (a + 36)).toNat = some cls
    ∧ (cls.hasResidue = true ∨ (memGet m (a + 37)).toNat = 0 ∧ (memGet m (a + 38)).toNat = 0)
    ∧ (memGet m (a + 38)).toNat ≤ 2 ∧ (memGet m (a + 37)).toNat ≤ 16

theorem importRefusal_short (short : length < 40) : importRefusal m a length cls = some .badLength := if_pos short

theorem residue_refused_iff : (!cls.hasResidue
      && decide ((memGet m (a + 37)).toNat ≠ 0 ∨ (memGet m (a + 38)).toNat ≠ 0)) = true ↔
    ¬ (cls.hasResidue = true ∨ (memGet m (a + 37)).toNat = 0 ∧ (memGet m (a + 38)).toNat = 0) := by
  rw [Bool.and_eq_true, Bool.not_eq_true', decide_eq_true_eq, not_or, not_and_or, Bool.not_eq_true]

/-- The head's own refusals leave an import no other way than BAD-IMPORT. -/
theorem importRefusal_head (long : 40 ≤ length) (partial_ : ¬ headWhole m a cls) :
    importRefusal m a length cls = some .badImport := by
  unfold importRefusal
  dsimp only
  rw [if_neg (Nat.not_lt.2 long)]
  by_cases flag : memGet m (a + 32) = 0
  · rw [if_neg (not_not_intro flag)]
    by_cases code : classOfCode (memGet m (a + 36)).toNat = some cls
    · rw [if_neg (not_not_intro code)]
      by_cases residue : cls.hasResidue = true ∨ (memGet m (a + 37)).toNat = 0 ∧ (memGet m (a + 38)).toNat = 0
      · rw [if_neg fun h => residue_refused_iff.1 h residue]
        by_cases direction : (memGet m (a + 38)).toNat > 2
        · exact if_pos direction
        · rw [if_neg direction]
          refine if_pos (Nat.not_le.1 fun few => partial_ ?_)
          exact ⟨(byte_zero_iff _).2 flag, code, residue, Nat.not_lt.1 direction, few⟩
      · exact if_pos (residue_refused_iff.2 residue)
    · exact if_pos code
  · exact if_pos flag

theorem importRefusal_whole (long : 40 ≤ length) (whole : headWhole m a cls) : importRefusal m a length cls =
    if length ≠ cls.baseLength + 2 * (memGet m (a + 37)).toNat then some .badLength
    else if memLe m 4 (a + 28) = 0 ∨ memLe m 4 (a + 28) = Config.eventCeiling then some .badImport
    else if !(readBody m a cls).importable then some .badImport
    else none := by
  obtain ⟨flag, code, residue, direction, few⟩ := whole
  unfold importRefusal
  dsimp only
  rw [if_neg (Nat.not_lt.2 long), if_neg (not_not_intro ((byte_zero_iff _).1 flag)), if_neg (not_not_intro code),
    if_neg fun h => residue_refused_iff.1 h residue, if_neg (Nat.not_lt.2 direction),
    if_neg (c := (memGet m (a + 37)).toNat > Config.stackLimit) (Nat.not_lt.2 few)]

theorem importRefusal_length (long : 40 ≤ length) (whole : headWhole m a cls)
    (other : length ≠ cls.baseLength + 2 * (memGet m (a + 37)).toNat) : importRefusal m a length cls = some .badLength :=
  (importRefusal_whole long whole).trans (if_pos other)

theorem importRefusal_content (long : 40 ≤ length) (whole : headWhole m a cls)
    (sized : length = cls.baseLength + 2 * (memGet m (a + 37)).toNat)
    (bad : memLe m 4 (a + 28) = 0 ∨ memLe m 4 (a + 28) = 2 ^ 32 - 1 ∨ (readBody m a cls).importable = false) :
    importRefusal m a length cls = some .badImport := by
  rw [importRefusal_whole long whole, if_neg (not_not_intro sized)]
  by_cases count : memLe m 4 (a + 28) = 0 ∨ memLe m 4 (a + 28) = Config.eventCeiling
  · exact if_pos count
  · rw [if_neg count]
    have content : (readBody m a cls).importable = false := by
      rcases bad with zero | full | content
      · exact absurd (.inl zero) count
      · exact absurd (.inr full) count
      · exact content
    rw [content]
    rfl

end

end Sys2Proof.Proofs
end

section
/-! The refusals of UNFIT, the hires, DEPOT-OUT and TUNE, in the order of their checks. -/
namespace Sys2Proof.Proofs
open Sys2Proof Sys2Proof.Machine

/-! ### A slot spec (12.7) -/

section
variable {m : Memory} {a mode : Nat}

theorem readSlotSpec_bad (bad : 1 < mode ∨ mode = 0 ∧ 7 < (memGet m (a + 1)).toNat
      ∨ mode = 1 ∧ ∀ cls, classOfCode (memGet m (a + 2)).toNat = some cls → ¬ placed cls (memGet m (a + 3)).toNat) :
    readSlotSpec m a mode = none := by
  unfold readSlotSpec
  rcases bad with other | ⟨rfl, beyond⟩ | ⟨rfl, misplaced⟩
  · rw [if_neg (by omega), if_neg (by omega)]
  · rw [if_pos rfl]
    exact if_neg (c := (memGet m (a + 1)).toNat < 8) (by omega)
  · rw [if_neg (by decide), if_pos rfl]
    cases code : classOfCode (memGet m (a + 2)).toNat with
    | none => rfl
    | some cls => exact if_neg fun good => misplaced cls code (of_decide_eq_true good)

theorem readSlotSpec_number (zero : mode = 0) (within_ : (memGet m (a + 1)).toNat ≤ 7) :
    readSlotSpec m a mode = some (.byNumber (memGet m (a + 1)).toNat) :=
  (if_pos zero).trans (if_pos (c := (memGet m (a + 1)).toNat < 8) (by omega))

theorem readSlotSpec_place {cls : ComponentClass} (one : mode = 1) (code : classOfCode (memGet m (a + 2)).toNat = some cls)
    (good : placed cls (memGet m (a + 3)).toNat) : readSlotSpec m a mode = some (.byPlace cls (memGet m (a + 3)).toNat) := by
  subst one
  unfold readSlotSpec
  rw [if_neg (by decide), if_pos rfl, code]
  exact if_pos (decide_eq_true good)

end

/-! ### UNFIT (R16) -/

/-- The spec of an UNFIT slip. -/
def unfitSpec (s : State) (p : Slip) : Option SlotSpec := readSlotSpec s.port.mem p.inOffset (memGet s.port.mem p.inOffset).toNat

theorem exec_unfit_refused {s : State} {p : Slip} {r : Result} (holds : s.holdsSlip .unfit p)
    (refused : checkUnfit (s.settleForUnfit p) p = .error r) : exec .unfit s = .next (s.returnSlip p r) := by
  refine exec_back (work := unfitWork) holds rfl ?_
  unfold unfitWork
  rw [refused]

/-- An UNFIT that names no FITTED slot takes no sample, and is judged as things stand. -/
theorem exec_unfit_unnamed {s : State} {p : Slip} {r : Result} (holds : s.holdsSlip .unfit p) (unnamed : s.unfitSlot p = none)
    (refused : checkUnfit s p = .error r) : exec .unfit s = .next (s.returnSlip p r) := by
  refine exec_unfit_refused holds ?_
  have settled : s.settleForUnfit p = s := by
    unfold State.settleForUnfit
    rw [unnamed]
  rw [settled]
  exact refused

theorem exec_unfit_normal {s : State} {p : Slip} (holds : s.holdsSlip .unfit p) (normal : s.depot.state ≠ .depot) :
    exec .unfit s = .next (s.returnSlip p (refusal .notInDepot)) :=
  exec_unfit_unnamed holds (if_pos normal) (if_pos normal)

section
variable {s : State} {p : Slip} (holds : s.holdsSlip .unfit p) (depot : s.depot.state = .depot)
include depot

theorem unfitSlot_spec (length : p.inLength = 4) : s.unfitSlot p = ((unfitSpec s p).bind s.findSpec).map (·.1) :=
  (if_neg (not_not_intro depot)).trans (if_neg (not_not_intro length))

theorem checkUnfit_found (length : p.inLength = 4) {spec : SlotSpec} {found : Nat × Component} (read : unfitSpec s p = some spec)
    (names : s.findSpec spec = some found) (small : p.outLength < exportSize found.2 p.retire) :
    checkUnfit s p = .error (refusal .shortSpace) := by
  unfold checkUnfit
  dsimp only
  rw [if_neg (not_not_intro depot), if_neg (not_not_intro length),
    show readSlotSpec s.port.mem p.inOffset (memGet s.port.mem p.inOffset).toNat = some spec from read]
  dsimp only
  rw [names]
  exact if_pos small

include holds

theorem exec_unfit_length (length : p.inLength ≠ 4) : exec .unfit s = .next (s.returnSlip p (refusal .badLength)) :=
  exec_unfit_unnamed holds ((if_neg (not_not_intro depot)).trans (if_pos length))
    ((if_neg (not_not_intro depot)).trans (if_pos length))

variable (length : p.inLength = 4)
include length

theorem exec_unfit_badSpec (bad : unfitSpec s p = none) : exec .unfit s = .next (s.returnSlip p (refusal .badSlotSpec)) := by
  refine exec_unfit_unnamed holds (by rw [unfitSlot_spec depot length, bad]; rfl) ?_
  unfold checkUnfit
  dsimp only
  rw [if_neg (not_not_intro depot), if_neg (not_not_intro length),
    show readSlotSpec s.port.mem p.inOffset (memGet s.port.mem p.inOffset).toNat = none from bad]

theorem exec_unfit_noSlot {spec : SlotSpec} (read : unfitSpec s p = some spec) (free : s.findSpec spec = none) :
    exec .unfit s = .next (s.returnSlip p (refusal .noSuchSlot)) := by
  refine exec_unfit_unnamed holds (by rw [unfitSlot_spec depot length, read, Option.bind_some, free]; rfl) ?_
  unfold checkUnfit
  dsimp only
  rw [if_neg (not_not_intro depot), if_neg (not_not_intro length),
    show readSlotSpec s.port.mem p.inOffset (memGet s.port.mem p.inOffset).toNat = some spec from read]
  dsimp only
  rw [free]

/-- The space is measured by the record once the samples waiting for its slot are taken. -/
theorem exec_unfit_space {spec : SlotSpec} {slot : Nat} {c e : Component} (read : unfitSpec s p = some spec)
    (names : s.findSpec spec = some (slot, c)) (stands : (s.takeWaiting (fun x => decide (x.slot = slot))).slotAt slot = some e)
    (small : p.outLength < exportSize e p.retire) : exec .unfit s = .next (s.returnSlip p (refusal .shortSpace)) := by
  refine exec_unfit_refused holds ?_
  have named : s.unfitSlot p = some slot := by rw [unfitSlot_spec depot length, read, Option.bind_some, names]; rfl
  have settled : s.settleForUnfit p = s.takeWaiting (fun x => decide (x.slot = slot)) := by
    unfold State.settleForUnfit
    rw [named]
  have frame := s.takeWaiting_frame (fun x => decide (x.slot = slot))
  have places := placesOf_takeWaiting s (fun x => decide (x.slot = slot))
  rw [settled]
  generalize s.takeWaiting (fun x => decide (x.slot = slot)) = t at *
  have same := findSpec_places places spec
  rw [names] at same
  obtain ⟨⟨_, d⟩, found, rfl⟩ := Option.map_eq_some_iff.1 same
  obtain rfl : d = e := Option.some.inj ((findSpec_slotAt found).symm.trans stands)
  have mem : t.port.mem = s.port.mem := by rw [frame]
  refine checkUnfit_found (by rw [frame]; exact depot) length (spec := spec) ?_ found small
  unfold unfitSpec
  rw [mem]
  exact read

end

theorem exportSize_eq (e : Component) (retire : Bool) :
    exportSize e retire = e.cls.baseLength + (if retire = true then 0 else 2 * e.body.points) := by
  unfold exportSize Component.exportLength
  cases retire <;> rfl

/-! ### The hires, DEPOT-OUT and TUNE -/

theorem exec_hireOpen_refused {s : State} {p : Slip} {r : Result} (holds : s.holdsSlip .hireOpen p)
    (refused : checkHireOpen s p = some r) : exec .hireOpen s = .next (s.returnSlip p r) := by
  refine exec_back (work := hireOpenWork) holds rfl ?_
  unfold hireOpenWork
  rw [refused]

theorem exec_hireClose_refused {s : State} {p : Slip} {r : Result} (holds : s.holdsSlip .hireClose p)
    (refused : checkHireClose s p = .error r) : exec .hireClose s = .next (s.returnSlip p r) := by
  refine exec_back (work := hireCloseWork) holds rfl ?_
  unfold hireCloseWork
  rw [refused]

theorem exec_tune_refused {s : State} {p : Slip} {r : Result} (holds : s.holdsSlip .tune p)
    (refused : checkTune s p = .error r) : exec .tune s = .next (s.returnSlip p r) := by
  refine exec_back (work := tuneWork) holds rfl ?_
  unfold tuneWork
  rw [refused]

theorem checkHireOpen_settled {s : State} {p : Slip} (length : p.inLength = 4) (normal : s.depot.state ≠ .depot) :
    (∀ h, s.hires.hire = some h → checkHireOpen s p = some ⟨.hireOpenAlready, h.number % 65536, 0⟩)
      ∧ (s.hires.hire = none → p.outLength < registerLength s.hires.bucket.entries.length →
        checkHireOpen s p = some (refusal .shortSpace)) := by
  unfold checkHireOpen
  rw [if_neg (not_not_intro length), if_neg normal]
  refine ⟨fun h open_ => by rw [open_], fun closed small => ?_⟩
  rw [closed]
  exact if_pos small

theorem checkHireClose_settled {s : State} {p : Slip} (length : p.inLength = 0) :
    (s.hires.hire = none → checkHireClose s p = .error (refusal .noHire))
      ∧ (∀ h, s.hires.hire = some h → p.outLength < registerLength h.entries.length →
        checkHireClose s p = .error (refusal .shortSpace)) := by
  unfold checkHireClose
  rw [if_neg (not_not_intro length)]
  refine ⟨fun closed => by rw [closed], fun h open_ small => ?_⟩
  rw [open_]
  exact if_pos small

section
variable {s : State} {p : Slip} (depot : s.depot.state = .depot)
include depot

theorem checkTune_short (short : p.inLength < 4) : checkTune s p = .error (refusal .badTune) :=
  (if_neg (not_not_intro depot)).trans (if_pos short)

variable (long : 4 ≤ p.inLength)
include long

theorem checkTune_unknown (code : sectionOfCode (memGet s.port.mem p.inOffset).toNat = none) :
    checkTune s p = .error (refusal .badTune) := by
  unfold checkTune
  rw [if_neg (not_not_intro depot), if_neg (Nat.not_lt.2 long), code]

theorem checkTune_known {sec : TuneSection} (code : sectionOfCode (memGet s.port.mem p.inOffset).toNat = some sec) :
    (sec ∈ s.depot.tuned → checkTune s p = .error (refusal .alreadyTuned))
      ∧ (sec ∉ s.depot.tuned → p.inLength ≠ sec.length → checkTune s p = .error (refusal .badTune))
      ∧ (sec ∉ s.depot.tuned → p.inLength = sec.length → readSection s.tune s.port.mem p.inOffset sec = none →
        checkTune s p = .error (refusal .badTune)) := by
  have tuned : s.depot.tuned.contains sec = true ↔ sec ∈ s.depot.tuned := List.contains_iff_mem
  unfold checkTune
  rw [if_neg (not_not_intro depot), if_neg (Nat.not_lt.2 long), code]
  dsimp only
  refine ⟨fun already => if_pos (tuned.2 already), fun untuned length => ?_, fun untuned length bad => ?_⟩
  · rw [if_neg fun h => untuned (tuned.1 h)]
    exact if_pos length
  · rw [if_neg fun h => untuned (tuned.1 h), if_neg (not_not_intro length), bad]

end

end Sys2Proof.Proofs
end

section
/-! The refusals settled, slip by slip. -/
namespace Sys2Proof.Proofs
open Sys2Proof Sys2Proof.Machine

theorem headerGood_bad {m : Memory} {a : Nat} {cls : ComponentClass} (bad : ¬ placed cls (memGet m (a + 1)).toNat
      ∨ (memGet m (a + 2)).toNat = 0 ∨ 16 < (memGet m (a + 2)).toNat
      ∨ ∃ i, i < (memGet m (a + 2)).toNat ∧ ((memGet m (a + (4 + i))).toNat < 0x20 ∨ 0x7E < (memGet m (a + (4 + i))).toNat)) :
    headerGood m a cls = false := by
  refine Bool.eq_false_iff.2 fun good => ?_
  obtain ⟨place, size, printable⟩ := (headerGood_iff m a cls).1 good
  rcases bad with misplaced | empty | long | ⟨i, inside, odd⟩
  · exact misplaced place
  · omega
  · omega
  · have := printable i inside
    omega

/-- The slot a spec names by number. -/
theorem findSpec_number {s : State} {slot : Nat} {c : Component} (stands : s.slotAt slot = some c) :
    s.findSpec (.byNumber slot) = some (slot, c) := congrArg (Option.map fun d => (slot, d)) stands

theorem findSpec_place {s : State} {slot : Nat} {c : Component} (stands : s.slotAt slot = some c) (distinct : distinctPlaces s.slots) :
    s.findSpec (.byPlace c.cls c.position) = some (slot, c) := by
  have fitted : s.slots[slot]? = some (some c) := Option.join_eq_some_iff.1 stands
  show (findSlot s.slots c.cls c.position).bind _ = _
  rw [findSlot_taken fitted distinct, Option.bind_some, stands]
  rfl

theorem findSpec_free {s : State} {cls : ComponentClass} {position : Nat}
    (free : ∀ (slot : Nat) (c : Component), s.slots[slot]? = some (some c) → ¬ (c.cls = cls ∧ c.position = position)) :
    s.findSpec (.byPlace cls position) = none := by
  show (findSlot s.slots cls position).bind _ = _
  rw [findSlot_free free]
  rfl

/-- Settles O39: each refusal by the first check that fails. -/
theorem slipsAreRefusedByTheirChecks : Obligations.SlipsAreRefusedByTheirChecks := by
  unfold Obligations.SlipsAreRefusedByTheirChecks
  intro s p byte refused placed_
  have apart : s.depot.state = .normal → s.depot.state ≠ .depot := fun normal same => by rw [normal] at same; cases same
  refine ⟨fun kind kinds holds normal => ?_, fun holds => ?_, fun holds => ?_, fun holds => ?_, fun holds depot => ?_,
    fun holds depot => ?_, fun holds depot => ?_⟩
  · rcases kinds with rfl | rfl | rfl
    · exact exec_fit_refused holds (checkFit_normal (apart normal))
    · exact exec_unfit_normal holds (apart normal)
    · exact exec_tune_refused holds (if_pos (apart normal))
  · refine ⟨fun length => ?_, fun length depot => ?_, fun h length normal open_ => ?_, fun length normal closed small => ?_⟩
    · exact exec_hireOpen_refused holds (if_pos length)
    · exact exec_hireOpen_refused holds ((if_neg (not_not_intro length)).trans (if_pos depot))
    · exact exec_hireOpen_refused holds ((checkHireOpen_settled length (apart normal)).1 h open_)
    · exact exec_hireOpen_refused holds ((checkHireOpen_settled length (apart normal)).2 closed small)
  · refine ⟨fun length => ?_, fun length closed => ?_, fun h length open_ small => ?_⟩
    · exact exec_hireClose_refused holds (if_pos length)
    · exact exec_hireClose_refused holds ((checkHireClose_settled length).1 closed)
    · exact exec_hireClose_refused holds ((checkHireClose_settled length).2 h open_ small)
  · refine ⟨fun length => ?_, fun length normal => ?_⟩
    · exact exec_back (work := depotOutWork) holds rfl (if_pos length)
    · exact exec_back (work := depotOutWork) holds rfl ((if_neg (not_not_intro length)).trans (if_pos (apart normal)))
  · refine ⟨fun short => ?_, fun long code => ?_, fun cls long code bad => ?_, fun cls long code good => ⟨?_, ?_⟩⟩
    · exact exec_fit_refused holds (checkFit_short depot short)
    · exact exec_fit_refused holds (checkFit_unclassed depot long code)
    · exact exec_fit_refused holds (checkFit_header depot long code (headerGood_bad bad))
    · rintro slot c fitted rfl position distinct
      have taken := findSlot_taken fitted distinct
      rw [position] at taken
      exact exec_fit_refused holds (checkFit_taken depot long code good taken)
    · intro free more fitCount whole
      have refuses {status : Status} (h : importRefusal s.port.mem p.inOffset p.inLength cls = some status) : refused .fit status 0 :=
        exec_fit_refused holds (checkFit_import depot long code good (findSlot_free free) more h)
      refine ⟨fun short => refuses (importRefusal_short short), fun enough retired => ?_, fun enough partial_ => ?_,
        fun ⟨enough, head⟩ other => refuses (importRefusal_length enough head other),
        fun ⟨enough, head⟩ sized bad => refuses (importRefusal_content enough head sized bad)⟩
      · exact refuses (importRefusal_head enough fun head => retired head.1)
      · exact refuses (importRefusal_head enough fun head => partial_ ⟨enough, head⟩)
  · refine ⟨exec_unfit_length holds depot, fun length bad => ?_, fun length zero within_ free => ?_,
      fun cls length one code good free => ?_, fun slot c length names stands e settled small => ?_⟩
    · exact exec_unfit_badSpec holds depot length (readSlotSpec_bad bad)
    · exact exec_unfit_noSlot holds depot length (readSlotSpec_number zero within_) (congrArg (Option.map _) free)
    · exact exec_unfit_noSlot holds depot length (readSlotSpec_place one code good) (findSpec_free free)
    · have space : p.outLength < exportSize e p.retire := by
        rw [exportSize_eq]
        exact small
      rcases names with ⟨zero, rfl, within_⟩ | ⟨one, code, good, position, distinct⟩
      · exact exec_unfit_space holds depot length (readSlotSpec_number zero within_) (findSpec_number stands) settled space
      · have named := findSpec_place stands distinct
        rw [← position] at named
        exact exec_unfit_space holds depot length (readSlotSpec_place one code good) named settled space
  · refine ⟨fun short => ?_, fun long code => ?_, fun sec long code => ?_⟩
    · exact exec_tune_refused holds (checkTune_short depot short)
    · exact exec_tune_refused holds (checkTune_unknown depot long code)
    · obtain ⟨already, length, bad⟩ := checkTune_known depot long code
      exact ⟨fun h => exec_tune_refused holds (already h), fun h k => exec_tune_refused holds (length h k),
        fun h k l => exec_tune_refused holds (bad h k l)⟩

end Sys2Proof.Proofs
end
